-- ==== Sys2Proof/Word.lean ====
section
/-! DEFINITION. The word types of the machine (`00_scope.md` R5, R9): a data byte and a 16-bit address.
Helpers over them (slices, extension, byte order) stand in Machine/Bits.lean. -/

namespace Sys2Proof

/-- A byte: the data width and the width of AC, X, Y and SP (R5). -/
abbrev Byte := BitVec 8

/-- A 16-bit value: an address, or the program counter (R5). Its arithmetic wraps modulo 65536, which is
the bus invariant "all addresses taken mod 65536" (`20_memory.md` R40). -/
abbrev Word := BitVec 16

end Sys2Proof
end

