-- ==== Sys2Proof/Machine/Bits.lean ====
section
/-! DEFINITION. Slices, extension and byte order of `00_scope.md` R9, each in one place. -/

namespace Sys2Proof

/-- `hi(w)` is `w[15:8]` (R9): the page of an address. -/
def hi (w : Word) : Byte := w.extractLsb' 8 8

/-- `lo(w)` is `w[7:0]` (R9). -/
def lo (w : Word) : Byte := w.extractLsb' 0 8

/-- The concatenation of two bytes, high part first: `h * 256 + l` (R9). -/
def join (h l : Byte) : Word := h ++ l

/-- `zext_16(b)` (R9). -/
def zext16 (b : Byte) : Word := b.setWidth 16

/-- `sext_16(b)`: `b` if `b < 128`, else `b + 0xFF00` (R9). -/
def sext16 (b : Byte) : Word := b.signExtend 16

end Sys2Proof
end

