-- ==== Sys2Proof/Config.lean ====
section
/-! DEFINITION. What the source leaves to the implementer, as the named parameters of `00_scope.md` R6 with
the defaults the spec gives them (decisions D3, D4, D5). The termination policy HALT is not here: it is an
argument of the execution loop (Machine/Loop.lean), with `haltDefault` as its default (D6).
No free value stands here: the spec leaves no result of an instruction open (`93_implementation_defined.md`). -/

namespace Sys2Proof.Config

/-- `LOAD_ADDR`, default (R6, D4). -/
def loadAddrDefault : Word := 0x0200

/-- `SP_RESET`, default (R6, D3). -/
def spResetDefault : Byte := 0xFF

/-- The arguments of construction (R6, R240). `PROG_LEN` is `program.length`. -/
structure Params where
  program  : List Byte
  loadAddr : Word := loadAddrDefault
  entry    : Word := loadAddr
  spReset  : Byte := spResetDefault
  deriving DecidableEq, Repr

end Sys2Proof.Config
end

