-- ==== Sys2Proof/Machine/State.lean ====
section
/-! DEFINITION. The machine's state as plain data (`10_state.md` R20 to R34), the reasons a step can stop,
and the state after reset. The run condition of `40_execution_loop.md` R80 is no register (R20): it is the
outcome of a step, and stands beside a State in Machine/Loop.lean's Session. -/

namespace Sys2Proof.Machine

/-- The status register SR: seven one-bit flags (R25). Bit 5 of the flattened byte holds no state and has
no field. D and I are stored and flattened only (R28). -/
structure Flags where
  n : Bool
  v : Bool
  b : Bool
  d : Bool
  i : Bool
  z : Bool
  c : Bool
  deriving DecidableEq, Repr

/-- The memory as the list of the cells that do not hold 0x00, in rising order of address (R32); see
`Memory.wf` in Machine/Memory.lean. -/
abbrev Memory := List Host.Cell

/-- The complete state of the block (R20). -/
structure State where
  /-- The program counter (R24). -/
  pc  : Word
  /-- The accumulator (R22). -/
  ac  : Byte
  /-- The index register X (R22). -/
  x   : Byte
  /-- The index register Y (R22). -/
  y   : Byte
  /-- The stack pointer, an offset into page 1 (R23). -/
  sp  : Byte
  /-- The status register (R25). -/
  sr  : Flags
  /-- The cycle counter, an unbounded natural number (R31, D7). -/
  cyc : Nat
  /-- The 65536 bytes of memory (R32). -/
  mem : Memory
  deriving DecidableEq, Repr

/-- The two causes of a ProgrammingFault, by the spec's names for them (R220, R221). -/
inductive FaultCause where
  /-- The dispatch table has no entry for the fetched opcode (R220). Raised by `step`. -/
  | noEntry
  /-- An opcode outside its handler's variant set (R221). Raised by nothing: the table of R64 pairs every
  mnemonic with a mode its rule defines, so the spec says it cannot occur. Safe. -/
  | badVariant
  deriving DecidableEq, Repr

/-- Why the machine stops by the spec's own words. -/
inductive Fault where
  /-- ProgrammingFault with its diagnostic context, the opcode and the address it was fetched from (R220,
  R222). Raised by `step` alone, for the 105 opcode bytes of R65; no meaning raises it. It is the fault the
  spec describes, so stopping here is neither early nor late: safe. -/
  | programmingFault (cause : FaultCause) (opcode : Byte) (pc : Word)
  deriving DecidableEq, Repr

/-- What the model does not answer. -/
inductive Refusal where
  /-- The instruction has no meaning in this model yet. Raised by no arm of `exec`: every instruction is
  modelled. Safe. -/
  | notModelled (mnemonic : String)
  /-- Construction was given an image longer than the memory; the spec makes the length a precondition
  (`93_implementation_defined.md` U10). Raised by `construct`, never by a step. Safe. -/
  | programTooLong
  deriving DecidableEq, Repr

/-- What an instruction, a step or construction answers. -/
abbrev Result := Host.Outcome State Fault Refusal

/-- All seven flags 0: the flags after construction (R25, R34). -/
def Flags.cleared : Flags :=
  { n := false, v := false, b := false, d := false, i := false, z := false, c := false }

/-- The state after construction with the default parameters and the empty image (R34, R240): memory is
zero but for the high byte of the reset vector, `Mem[0xFFFD] = hi(ENTRY) = 0x02`. -/
def State.reset : State :=
  { pc := 0x0200, ac := 0x00, x := 0x00, y := 0x00, sp := 0xFF
    sr := Flags.cleared, cyc := 0, mem := [(0xFFFD, 0x02)] }

end Sys2Proof.Machine
end

