-- ==== Sys2Proof/Machine/Flags.lean ====
section
/-! DEFINITION. The status register as a byte (`10_state.md` R26, R27) and every flag computation of the
instruction rules: SetNZ (`00_scope.md` R10), ADC and SBC (R140, R141), the compares (R142), BIT (R153), the
shifts and rotates (R161 to R164), INC and DEC (R165, R166). -/

namespace Sys2Proof.Machine

/-- Flatten: `128*N + 64*V + 32 + 16*B + 8*D + 4*I + 2*Z + C`, the ignored bit reading 1 (R26). -/
def Flags.flatten (f : Flags) : Byte :=
  BitVec.ofBool f.n ++ BitVec.ofBool f.v ++ 1#1 ++ BitVec.ofBool f.b ++ BitVec.ofBool f.d ++
    BitVec.ofBool f.i ++ BitVec.ofBool f.z ++ BitVec.ofBool f.c

/-- Unflatten: the seven flags from bits 7, 6, 4, 3, 2, 1, 0; bit 5 is discarded (R27). -/
def Flags.unflatten (b : Byte) : Flags :=
  { n := b.getLsbD 7, v := b.getLsbD 6, b := b.getLsbD 4, d := b.getLsbD 3
    i := b.getLsbD 2, z := b.getLsbD 1, c := b.getLsbD 0 }

/-- SetNZ: N is bit 7 of the result, Z says the result is zero (R10). -/
def Flags.setNZ (f : Flags) (v : Byte) : Flags := { f with n := v.getLsbD 7, z := v == 0 }

/-- What ADC and SBC compute: the result byte and the two flags besides N and Z. -/
structure SumResult where
  r : Byte
  v : Bool
  c : Bool
  deriving DecidableEq, Repr

/-- The 9-bit unsigned sum `AC + M + C` (R140). -/
def sum9 (a m : Byte) (cin : Bool) : BitVec 9 :=
  a.setWidth 9 + m.setWidth 9 + (BitVec.ofBool cin).setWidth 9

/-- Signed overflow: the operands have the same sign and the result another (R140). -/
def signedOverflow (a m r : Byte) : Bool := (a.getLsbD 7 == m.getLsbD 7) && (r.getLsbD 7 != a.getLsbD 7)

/-- ADC's arithmetic (R140): C is bit 8 of the sum. D is not read (R28). -/
def addWithCarry (a m : Byte) (cin : Bool) : SumResult :=
  let t := sum9 a m cin
  let r := t.setWidth 8
  { r := r, v := signedOverflow a m r, c := t.getLsbD 8 }

/-- SBC's arithmetic (R141): ADC's circuit on the complemented operand, and C is forced to 0 on signed
overflow. This is the source's rule and not MOS silicon's (`90_conflicts.md` C7). D is not read (R28). -/
def subWithBorrow (a m : Byte) (cin : Bool) : SumResult :=
  let mc := m ^^^ 0xFF
  let t := sum9 a mc cin
  let r := t.setWidth 8
  let v := signedOverflow a mc r
  { r := r, v := v, c := t.getLsbD 8 && !v }

/-- The compares (R142 to R144): C is the unsigned comparison, N and Z are of the 8-bit difference. -/
def Flags.compare (f : Flags) (r m : Byte) : Flags :=
  Flags.setNZ { f with c := decide (m.toNat ≤ r.toNat) } (r - m)

/-- BIT (R153): Z of the AND, N and V copied from bits 7 and 6 of the operand. -/
def Flags.bitTest (f : Flags) (a m : Byte) : Flags :=
  { f with z := (a &&& m) == 0, n := m.getLsbD 7, v := m.getLsbD 6 }

/-- A modify function of R160: from the byte and the carry in, the new byte and the carry out, if any. -/
abbrev Modify := Byte → Bool → Byte × Option Bool

/-- ASL (R161): bit 7 goes to C, bit 0 becomes 0. -/
def modifyAsl : Modify := fun v _ => (v <<< 1, some (v.getLsbD 7))

/-- LSR (R162): bit 0 goes to C, bit 7 becomes 0. -/
def modifyLsr : Modify := fun v _ => (v >>> 1, some (v.getLsbD 0))

/-- ROL (R163): as ASL, with the previous C in bit 0. -/
def modifyRol : Modify := fun v cin => ((v <<< 1) + (BitVec.ofBool cin).setWidth 8, some (v.getLsbD 7))

/-- ROR (R164): as LSR, with the previous C in bit 7. -/
def modifyRor : Modify := fun v cin => ((v >>> 1) + ((BitVec.ofBool cin).setWidth 8 <<< 7), some (v.getLsbD 0))

/-- INC (R165): plus 1 modulo 256, no carry out. -/
def modifyInc : Modify := fun v _ => (v + 1, none)

/-- DEC (R166): minus 1 modulo 256, no carry out. -/
def modifyDec : Modify := fun v _ => (v - 1, none)

/-- The flags after a modify (R160): C where the operation has a carry out, then N and Z. -/
def Flags.afterModify (f : Flags) (r : Byte) (c : Option Bool) : Flags :=
  match c with
  | some cout => Flags.setNZ { f with c := cout } r
  | none => Flags.setNZ f r

end Sys2Proof.Machine
end

