-- ==== Sys2Proof/Machine/Memory.lean ====
section
/-! DEFINITION. The byte store (`20_memory.md` R40 to R42): 65536 cells, an unlisted cell reading the 0x00
that construction gives it (`10_state.md` R34). Keys are addresses as natural numbers; every key an
instruction uses comes from a 16-bit word, so it is below 65536. -/

namespace Sys2Proof.Machine

/-- What a cell that the list does not hold reads as: the construction value "zero-initialized" (R40, R34). -/
def Memory.unlisted : Byte := 0x00

/-- `read(addr) -> byte`, with no effect on the store (R41). -/
def Memory.read : Memory → Nat → Byte
  | [], _ => Memory.unlisted
  | cell :: rest, a => if cell.1 = a then cell.2 else Memory.read rest a

/-- The list without the cells at `a`. -/
def Memory.erase (a : Nat) (m : Memory) : Memory := m.filter (fun cell => cell.1 != a)

/-- The list with one more cell, before the first of a larger address. -/
def Memory.insert (a : Nat) (v : Byte) : Memory → Memory
  | [] => [(a, v)]
  | cell :: rest => if a < cell.1 then (a, v) :: cell :: rest else cell :: Memory.insert a v rest

/-- `write(addr, byte)` (R41), in canonical form: a byte equal to what an unlisted cell reads as is not
listed. -/
def Memory.write (m : Memory) (a : Nat) (v : Byte) : Memory :=
  if v = Memory.unlisted then Memory.erase a m else Memory.insert a v (Memory.erase a m)

/-- Every listed address is above `low`, they rise strictly, none is 65536 or more, and no cell holds what
an unlisted one reads as. -/
def Memory.risesFrom : Nat → Memory → Bool
  | _, [] => true
  | low, cell :: rest =>
    decide (low ≤ cell.1) && decide (cell.1 < 65536) && cell.2 != Memory.unlisted && Memory.risesFrom (cell.1 + 1) rest

/-- The canonical form: equal memories are equal lists. -/
def Memory.wf (m : Memory) : Bool := Memory.risesFrom 0 m

/-- `write(addr, bytes, len)`, the unwrapped bulk form that construction alone uses: `bytes[i]` goes to
`(addr + i) mod 65536`, in order, and no cycle is charged (R42). -/
def Memory.bulkWrite (m : Memory) (a : Word) : List Byte → Memory
  | [] => m
  | b :: rest => Memory.bulkWrite (Memory.write m a.toNat b) (a + 1) rest

end Sys2Proof.Machine
end

