-- ==== Sys2Proof/Machine/Ops.lean ====
section
/-! DEFINITION. The primitives of `00_scope.md` R10, the one trap entry of the block and the return from it
(`48_stack_brk_rti.md` R214, R215; `60_exceptions.md` R226, R227), and raising a ProgrammingFault (R220). -/

namespace Sys2Proof.Machine

/-- Tick(n): intrinsic cycles, no bus access (R10). -/
def State.tick (s : State) (n : Nat) : State := { s with cyc := s.cyc + n }

/-- MemRead: one wrapped read, one cycle (R10). -/
def State.memRead (s : State) (a : Word) : Byte × State := (Memory.read s.mem a.toNat, s.tick 1)

/-- MemWrite: one wrapped write, one cycle (R10). -/
def State.memWrite (s : State) (a : Word) (v : Byte) : State :=
  { s.tick 1 with mem := Memory.write s.mem a.toNat v }

/-- Fetch: "read byte at PC, increment PC" (R10). -/
def State.fetch (s : State) : Byte × State :=
  let (b, s) := s.memRead s.pc
  (b, { s with pc := s.pc + 1 })

/-- The Fetch of an operand byte that the decoder has put in the instruction: its effect on PC and CYC
(R100). The byte itself is the instruction's field (log 4). -/
def State.consume (s : State) : State := s.fetch.2

/-- The stack location of a stack pointer: always in page 1 (R23). -/
def stackAddr (sp : Byte) : Word := 0x0100 + zext16 sp

/-- Push: "write to 0x100+SP, then decrement SP" (R10); SP wraps (R23). -/
def State.push (s : State) (v : Byte) : State :=
  let s := s.memWrite (stackAddr s.sp) v
  { s with sp := s.sp - 1 }

/-- Pop: "increment SP, then read 0x100+SP" (R10); SP wraps (R23). -/
def State.pop (s : State) : Byte × State :=
  let s : State := { s with sp := s.sp + 1 }
  s.memRead (stackAddr s.sp)

/-- SetNZ on the state's flags (R10). -/
def State.setNZ (s : State) (v : Byte) : State := { s with sr := s.sr.setNZ v }

/-- The low cell of the BRK vector; the high byte lies in the next cell (R43, R214). -/
def brkVector : Word := 0xFFFE

/-- The low cell of the reset vector; the high byte lies in the next cell (R43, R240). -/
def resetVector : Word := 0xFFFC

/-- Trap entry (R214, R226): B is set, then PC (high, low) and the flattened SR are pushed, and PC is loaded
from the BRK vector. I and the other flags are unchanged, and there is no mode to change (R229). -/
def State.trapEntry (s : State) : State :=
  let s : State := { s with sr := { s.sr with b := true } }
  let s := s.push (hi s.pc)
  let s := s.push (lo s.pc)
  let s := s.push s.sr.flatten
  let s := s.tick 1
  let (l, s) := s.memRead brkVector
  let (h, s) := s.memRead (brkVector + 1)
  { s with pc := join h l }

/-- Trap return (R215, R227): SR from the popped byte, all seven flags, then PC (low, high), with no
adjustment. -/
def State.trapReturn (s : State) : State :=
  let (b, s) := s.pop
  let s : State := { s with sr := Flags.unflatten b }
  let (l, s) := s.pop
  let (h, s) := s.pop
  let s := s.tick 2
  { s with pc := join h l }

/-- Raising ProgrammingFault, cause NoEntry, for an opcode and the address it was fetched from (R220, R222). -/
def raiseNoEntry (opcode : Byte) (pc : Word) : Result := .fault (.programmingFault .noEntry opcode pc)

end Sys2Proof.Machine
end

