-- ==== Sys2Proof/Syntax.lean ====
section
/-! DEFINITION. The instructions as syntax: one constructor for each of the 151 rows of opcode_table.json
(`30_encoding.md` R63), holding its operand field at its exact width (R62), so that every operand value is
legal (R66). A 16-bit operand is the pair hi8, lo8 as one word. -/

namespace Sys2Proof

/-- The 56 mnemonics (R63). -/
inductive Mnemonic where
  | lda | ldx | ldy | sta | stx | sty | tax | tay | txa | tya | tsx | txs
  | adc | sbc | cmp | cpx | cpy
  | and | ora | eor | bit
  | asl | lsr | rol | ror | inc | dec | inx | iny | dex | dey
  | clc | cld | cli | clv | sec | sed | sei | nop
  | jmp | jsr | rts | bcc | bcs | beq | bmi | bne | bpl | bvc | bvs
  | pha | php | pla | plp | brk | rti
  deriving DecidableEq, Repr

/-- The thirteen addressing modes (R60). -/
inductive Mode where
  | imp | acc | imm | zp | zpx | zpy | abs | abx | aby | ind | izx | izy | rel
  deriving DecidableEq, Repr

/-- Length of an instruction in bytes, a function of its mode alone (R60). -/
def Mode.length : Mode → Nat
  | .imp | .acc => 1
  | .imm | .zp | .zpx | .zpy | .rel | .izx | .izy => 2
  | .abs | .abx | .aby | .ind => 3

/-- The instructions. The constructor's name is the mnemonic and, where it has more than one mode or an
operand with an effective address, the mode. -/
inductive Instr where
  -- 42_load_store_transfer.md
  | ldaImm (imm8 : Byte)
  | ldaZp (zp8 : Byte)
  | ldaZpx (zp8 : Byte)
  | ldaAbs (addr : Word)
  | ldaAbx (base : Word)
  | ldaAby (base : Word)
  | ldaIzx (zp8 : Byte)
  | ldaIzy (zp8 : Byte)
  | ldxImm (imm8 : Byte)
  | ldxZp (zp8 : Byte)
  | ldxZpy (zp8 : Byte)
  | ldxAbs (addr : Word)
  | ldxAby (base : Word)
  | ldyImm (imm8 : Byte)
  | ldyZp (zp8 : Byte)
  | ldyZpx (zp8 : Byte)
  | ldyAbs (addr : Word)
  | ldyAbx (base : Word)
  | staZp (zp8 : Byte)
  | staZpx (zp8 : Byte)
  | staAbs (addr : Word)
  | staAbx (base : Word)
  | staAby (base : Word)
  | staIzx (zp8 : Byte)
  | staIzy (zp8 : Byte)
  | stxZp (zp8 : Byte)
  | stxZpy (zp8 : Byte)
  | stxAbs (addr : Word)
  | styZp (zp8 : Byte)
  | styZpx (zp8 : Byte)
  | styAbs (addr : Word)
  | tax
  | tay
  | txa
  | tya
  | tsx
  | txs
  -- 43_arithmetic_compare.md
  | adcImm (imm8 : Byte)
  | adcZp (zp8 : Byte)
  | adcZpx (zp8 : Byte)
  | adcAbs (addr : Word)
  | adcAbx (base : Word)
  | adcAby (base : Word)
  | adcIzx (zp8 : Byte)
  | adcIzy (zp8 : Byte)
  | sbcImm (imm8 : Byte)
  | sbcZp (zp8 : Byte)
  | sbcZpx (zp8 : Byte)
  | sbcAbs (addr : Word)
  | sbcAbx (base : Word)
  | sbcAby (base : Word)
  | sbcIzx (zp8 : Byte)
  | sbcIzy (zp8 : Byte)
  | cmpImm (imm8 : Byte)
  | cmpZp (zp8 : Byte)
  | cmpZpx (zp8 : Byte)
  | cmpAbs (addr : Word)
  | cmpAbx (base : Word)
  | cmpAby (base : Word)
  | cmpIzx (zp8 : Byte)
  | cmpIzy (zp8 : Byte)
  | cpxImm (imm8 : Byte)
  | cpxZp (zp8 : Byte)
  | cpxAbs (addr : Word)
  | cpyImm (imm8 : Byte)
  | cpyZp (zp8 : Byte)
  | cpyAbs (addr : Word)
  -- 44_logic_bit.md
  | andImm (imm8 : Byte)
  | andZp (zp8 : Byte)
  | andZpx (zp8 : Byte)
  | andAbs (addr : Word)
  | andAbx (base : Word)
  | andAby (base : Word)
  | andIzx (zp8 : Byte)
  | andIzy (zp8 : Byte)
  | oraImm (imm8 : Byte)
  | oraZp (zp8 : Byte)
  | oraZpx (zp8 : Byte)
  | oraAbs (addr : Word)
  | oraAbx (base : Word)
  | oraAby (base : Word)
  | oraIzx (zp8 : Byte)
  | oraIzy (zp8 : Byte)
  | eorImm (imm8 : Byte)
  | eorZp (zp8 : Byte)
  | eorZpx (zp8 : Byte)
  | eorAbs (addr : Word)
  | eorAbx (base : Word)
  | eorAby (base : Word)
  | eorIzx (zp8 : Byte)
  | eorIzy (zp8 : Byte)
  | bitZp (zp8 : Byte)
  | bitAbs (addr : Word)
  -- 45_shift_rotate_incdec.md
  | aslAcc
  | aslZp (zp8 : Byte)
  | aslZpx (zp8 : Byte)
  | aslAbs (addr : Word)
  | aslAbx (base : Word)
  | lsrAcc
  | lsrZp (zp8 : Byte)
  | lsrZpx (zp8 : Byte)
  | lsrAbs (addr : Word)
  | lsrAbx (base : Word)
  | rolAcc
  | rolZp (zp8 : Byte)
  | rolZpx (zp8 : Byte)
  | rolAbs (addr : Word)
  | rolAbx (base : Word)
  | rorAcc
  | rorZp (zp8 : Byte)
  | rorZpx (zp8 : Byte)
  | rorAbs (addr : Word)
  | rorAbx (base : Word)
  | incZp (zp8 : Byte)
  | incZpx (zp8 : Byte)
  | incAbs (addr : Word)
  | incAbx (base : Word)
  | decZp (zp8 : Byte)
  | decZpx (zp8 : Byte)
  | decAbs (addr : Word)
  | decAbx (base : Word)
  | inx
  | iny
  | dex
  | dey
  -- 46_flags_nop.md
  | clc
  | cld
  | cli
  | clv
  | sec
  | sed
  | sei
  | nop
  -- 47_control_flow.md
  | jmpAbs (addr : Word)
  | jmpInd (ptr : Word)
  | jsr (addr : Word)
  | rts
  | bcc (rel8 : Byte)
  | bcs (rel8 : Byte)
  | beq (rel8 : Byte)
  | bmi (rel8 : Byte)
  | bne (rel8 : Byte)
  | bpl (rel8 : Byte)
  | bvc (rel8 : Byte)
  | bvs (rel8 : Byte)
  -- 48_stack_brk_rti.md
  | pha
  | php
  | pla
  | plp
  | brk
  | rti
  deriving DecidableEq, Repr

/-- The mnemonic of an instruction: the row of R63 it stands in. -/
def Instr.mnemonic : Instr → Mnemonic
  | .ldaImm _ | .ldaZp _ | .ldaZpx _ | .ldaAbs _ | .ldaAbx _ | .ldaAby _ | .ldaIzx _ | .ldaIzy _ => .lda
  | .ldxImm _ | .ldxZp _ | .ldxZpy _ | .ldxAbs _ | .ldxAby _ => .ldx
  | .ldyImm _ | .ldyZp _ | .ldyZpx _ | .ldyAbs _ | .ldyAbx _ => .ldy
  | .staZp _ | .staZpx _ | .staAbs _ | .staAbx _ | .staAby _ | .staIzx _ | .staIzy _ => .sta
  | .stxZp _ | .stxZpy _ | .stxAbs _ => .stx
  | .styZp _ | .styZpx _ | .styAbs _ => .sty
  | .tax => .tax
  | .tay => .tay
  | .txa => .txa
  | .tya => .tya
  | .tsx => .tsx
  | .txs => .txs
  | .adcImm _ | .adcZp _ | .adcZpx _ | .adcAbs _ | .adcAbx _ | .adcAby _ | .adcIzx _ | .adcIzy _ => .adc
  | .sbcImm _ | .sbcZp _ | .sbcZpx _ | .sbcAbs _ | .sbcAbx _ | .sbcAby _ | .sbcIzx _ | .sbcIzy _ => .sbc
  | .cmpImm _ | .cmpZp _ | .cmpZpx _ | .cmpAbs _ | .cmpAbx _ | .cmpAby _ | .cmpIzx _ | .cmpIzy _ => .cmp
  | .cpxImm _ | .cpxZp _ | .cpxAbs _ => .cpx
  | .cpyImm _ | .cpyZp _ | .cpyAbs _ => .cpy
  | .andImm _ | .andZp _ | .andZpx _ | .andAbs _ | .andAbx _ | .andAby _ | .andIzx _ | .andIzy _ => .and
  | .oraImm _ | .oraZp _ | .oraZpx _ | .oraAbs _ | .oraAbx _ | .oraAby _ | .oraIzx _ | .oraIzy _ => .ora
  | .eorImm _ | .eorZp _ | .eorZpx _ | .eorAbs _ | .eorAbx _ | .eorAby _ | .eorIzx _ | .eorIzy _ => .eor
  | .bitZp _ | .bitAbs _ => .bit
  | .aslAcc | .aslZp _ | .aslZpx _ | .aslAbs _ | .aslAbx _ => .asl
  | .lsrAcc | .lsrZp _ | .lsrZpx _ | .lsrAbs _ | .lsrAbx _ => .lsr
  | .rolAcc | .rolZp _ | .rolZpx _ | .rolAbs _ | .rolAbx _ => .rol
  | .rorAcc | .rorZp _ | .rorZpx _ | .rorAbs _ | .rorAbx _ => .ror
  | .incZp _ | .incZpx _ | .incAbs _ | .incAbx _ => .inc
  | .decZp _ | .decZpx _ | .decAbs _ | .decAbx _ => .dec
  | .inx => .inx
  | .iny => .iny
  | .dex => .dex
  | .dey => .dey
  | .clc => .clc
  | .cld => .cld
  | .cli => .cli
  | .clv => .clv
  | .sec => .sec
  | .sed => .sed
  | .sei => .sei
  | .nop => .nop
  | .jmpAbs _ | .jmpInd _ => .jmp
  | .jsr _ => .jsr
  | .rts => .rts
  | .bcc _ => .bcc
  | .bcs _ => .bcs
  | .beq _ => .beq
  | .bmi _ => .bmi
  | .bne _ => .bne
  | .bpl _ => .bpl
  | .bvc _ => .bvc
  | .bvs _ => .bvs
  | .pha => .pha
  | .php => .php
  | .pla => .pla
  | .plp => .plp
  | .brk => .brk
  | .rti => .rti

/-- The addressing mode of an instruction: the column of R63 it stands in. -/
def Instr.mode : Instr → Mode
  | .tax | .tay | .txa | .tya | .tsx | .txs | .inx | .iny | .dex | .dey | .clc | .cld | .cli | .clv | .sec
  | .sed | .sei | .nop | .rts | .pha | .php | .pla | .plp | .brk | .rti => .imp
  | .aslAcc | .lsrAcc | .rolAcc | .rorAcc => .acc
  | .ldaImm _ | .ldxImm _ | .ldyImm _ | .adcImm _ | .sbcImm _ | .cmpImm _ | .cpxImm _ | .cpyImm _ | .andImm _
  | .oraImm _ | .eorImm _ => .imm
  | .ldaZp _ | .ldxZp _ | .ldyZp _ | .staZp _ | .stxZp _ | .styZp _ | .adcZp _ | .sbcZp _ | .cmpZp _ | .cpxZp _
  | .cpyZp _ | .andZp _ | .oraZp _ | .eorZp _ | .bitZp _ | .aslZp _ | .lsrZp _ | .rolZp _ | .rorZp _ | .incZp _
  | .decZp _ => .zp
  | .ldaZpx _ | .ldyZpx _ | .staZpx _ | .styZpx _ | .adcZpx _ | .sbcZpx _ | .cmpZpx _ | .andZpx _ | .oraZpx _
  | .eorZpx _ | .aslZpx _ | .lsrZpx _ | .rolZpx _ | .rorZpx _ | .incZpx _ | .decZpx _ => .zpx
  | .ldxZpy _ | .stxZpy _ => .zpy
  | .ldaAbs _ | .ldxAbs _ | .ldyAbs _ | .staAbs _ | .stxAbs _ | .styAbs _ | .adcAbs _ | .sbcAbs _ | .cmpAbs _
  | .cpxAbs _ | .cpyAbs _ | .andAbs _ | .oraAbs _ | .eorAbs _ | .bitAbs _ | .aslAbs _ | .lsrAbs _ | .rolAbs _
  | .rorAbs _ | .incAbs _ | .decAbs _ | .jmpAbs _ | .jsr _ => .abs
  | .ldaAbx _ | .ldyAbx _ | .staAbx _ | .adcAbx _ | .sbcAbx _ | .cmpAbx _ | .andAbx _ | .oraAbx _ | .eorAbx _
  | .aslAbx _ | .lsrAbx _ | .rolAbx _ | .rorAbx _ | .incAbx _ | .decAbx _ => .abx
  | .ldaAby _ | .ldxAby _ | .staAby _ | .adcAby _ | .sbcAby _ | .cmpAby _ | .andAby _ | .oraAby _ | .eorAby _ => .aby
  | .jmpInd _ => .ind
  | .ldaIzx _ | .staIzx _ | .adcIzx _ | .sbcIzx _ | .cmpIzx _ | .andIzx _ | .oraIzx _ | .eorIzx _ => .izx
  | .ldaIzy _ | .staIzy _ | .adcIzy _ | .sbcIzy _ | .cmpIzy _ | .andIzy _ | .oraIzy _ | .eorIzy _ => .izy
  | .bcc _ | .bcs _ | .beq _ | .bmi _ | .bne _ | .bpl _ | .bvc _ | .bvs _ => .rel

end Sys2Proof
end

