-- ==== Sys2Proof/Machine/Operands.lean ====
section
/-! DEFINITION. The addressing-mode resolvers (`41_addressing_modes.md`), entered after the opcode fetch with
PC at the first operand byte, and the two operand patterns every family uses: reading the operand byte, and
read-modify-write (`45_shift_rotate_incdec.md` R160). A resolver changes only PC and CYC (R100). Operand bytes
come from the decoded instruction; every `consume` is the Fetch of one of them (log 4). -/

namespace Sys2Proof.Machine

/-- An operand form with an effective address, holding the operand bytes the decoder read. -/
inductive Operand where
  | imm (imm8 : Byte)
  | zp  (zp8 : Byte)
  | zpx (zp8 : Byte)
  | zpy (zp8 : Byte)
  | abs (addr : Word)
  | abx (base : Word)
  | aby (base : Word)
  | ind (ptr : Word)
  | izx (zp8 : Byte)
  | izy (zp8 : Byte)
  deriving DecidableEq, Repr

/-- IndexCharge (R107): one cycle if the instruction writes, or if the high byte changes. -/
def State.indexCharge (s : State) (base ea : Word) (w : Bool) : State :=
  if w || hi ea != hi base then s.tick 1 else s

/-- EA_IMM (R101): the operand's own location; PC moves past it with no access and no cycle. -/
def eaImm (s : State) : Word × State := (s.pc, { s with pc := s.pc + 1 })

/-- EA_ZP (R102). -/
def eaZp (b : Byte) (s : State) : Word × State :=
  let s := s.consume
  (zext16 b, s)

/-- EA_ZPX (R103): the sum wraps within page 0. -/
def eaZpx (b : Byte) (s : State) : Word × State :=
  let s := s.consume
  let s := s.tick 1
  (zext16 (b + s.x), s)

/-- EA_ZPY (R104). -/
def eaZpy (b : Byte) (s : State) : Word × State :=
  let s := s.consume
  let s := s.tick 1
  (zext16 (b + s.y), s)

/-- EA_ABS (R105). -/
def eaAbs (a : Word) (s : State) : Word × State :=
  let s := s.consume
  let s := s.consume
  (a, s)

/-- EA_ABX (R106). -/
def eaAbx (w : Bool) (base : Word) (s : State) : Word × State :=
  let s := s.consume
  let s := s.consume
  let ea := base + zext16 s.x
  (ea, s.indexCharge base ea w)

/-- EA_ABY (R111). -/
def eaAby (w : Bool) (base : Word) (s : State) : Word × State :=
  let s := s.consume
  let s := s.consume
  let ea := base + zext16 s.y
  (ea, s.indexCharge base ea w)

/-- The second cell of JMP indirect's pointer: in the same page (R108, the documented bug). -/
def samePageNext (p : Word) : Word := join (hi p) (lo p + 1)

/-- EA_IND (R108). -/
def eaInd (p : Word) (s : State) : Word × State :=
  let s := s.consume
  let s := s.consume
  let (tl, s) := s.memRead p
  let (th, s) := s.memRead (samePageNext p)
  (join th tl, s)

/-- EA_IZX (R109): the pointer and its second cell wrap within page 0. -/
def eaIzx (b : Byte) (s : State) : Word × State :=
  let s := s.consume
  let s := s.tick 1
  let p := b + s.x
  let (l, s) := s.memRead (zext16 p)
  let (h, s) := s.memRead (zext16 (p + 1))
  (join h l, s)

/-- EA_IZY (R110): the pointer's second cell wraps within page 0; the sum with Y wraps modulo 65536. -/
def eaIzy (w : Bool) (p : Byte) (s : State) : Word × State :=
  let s := s.consume
  let (l, s) := s.memRead (zext16 p)
  let (h, s) := s.memRead (zext16 (p + 1))
  let base := join h l
  let ea := base + zext16 s.y
  (ea, s.indexCharge base ea w)

/-- The resolver of an operand form; `w` says that the calling instruction is a write instruction (R107). -/
def resolve (w : Bool) (o : Operand) (s : State) : Word × State :=
  match o with
  | .imm _ => eaImm s
  | .zp b => eaZp b s
  | .zpx b => eaZpx b s
  | .zpy b => eaZpy b s
  | .abs a => eaAbs a s
  | .abx a => eaAbx w a s
  | .aby a => eaAby w a s
  | .ind p => eaInd p s
  | .izx b => eaIzx b s
  | .izy b => eaIzy w b s

/-- The byte an instruction that reads its operand works on, `MemRead(EA_mode(false), 1)`. The byte at an
immediate operand's own location is the instruction's field (R101, log 4). -/
def readOperand (o : Operand) (s : State) : Byte × State :=
  let (ea, s) := resolve false o s
  match o with
  | .imm v => (v, s.tick 1)
  | _ => s.memRead ea

/-- The store pattern of STA, STX, STY: `MemWrite(EA_mode(true), 1, v)` (R123). -/
def storeOperand (o : Operand) (v : Byte) (s : State) : State :=
  let (ea, s) := resolve true o s
  s.memWrite ea v

/-- RMW_mem (R160): read, one cycle for the modify, write back to the same address, then the flags. -/
def rmwMem (f : Modify) (o : Operand) (s : State) : State :=
  let (ea, s) := resolve true o s
  let (v, s) := s.memRead ea
  let (r, c) := f v s.sr.c
  let s := s.tick 1
  let s := s.memWrite ea r
  { s with sr := s.sr.afterModify r c }

/-- RMW_acc (R160): the accumulator form of the shifts and rotates (R114). -/
def rmwAcc (f : Modify) (s : State) : State :=
  let (r, c) := f s.ac s.sr.c
  let s := s.tick 1
  { s with ac := r, sr := s.sr.afterModify r c }

/-- Branch(taken) (R112): the displacement is always consumed; a taken branch costs one cycle, and one more
if its target is in another page than the next instruction. -/
def branch (taken : Bool) (d : Byte) (s : State) : State :=
  let s := s.consume
  if taken then
    let t := s.pc + sext16 d
    let s := s.tick 1
    let s := if hi t != hi s.pc then s.tick 1 else s
    { s with pc := t }
  else s

/-- The operand form of an instruction that has an effective address; none for IMP, ACC, REL, and for JSR,
whose ABS bytes are its target (R63, R191). -/
def operandOf : Instr → Option Operand
  | .ldaImm u | .ldxImm u | .ldyImm u | .adcImm u | .sbcImm u | .cmpImm u | .cpxImm u | .cpyImm u | .andImm u
  | .oraImm u | .eorImm u => some (.imm u)
  | .ldaZp u | .ldxZp u | .ldyZp u | .staZp u | .stxZp u | .styZp u | .adcZp u | .sbcZp u | .cmpZp u | .cpxZp u
  | .cpyZp u | .andZp u | .oraZp u | .eorZp u | .bitZp u | .aslZp u | .lsrZp u | .rolZp u | .rorZp u | .incZp u
  | .decZp u => some (.zp u)
  | .ldaZpx u | .ldyZpx u | .staZpx u | .styZpx u | .adcZpx u | .sbcZpx u | .cmpZpx u | .andZpx u | .oraZpx u
  | .eorZpx u | .aslZpx u | .lsrZpx u | .rolZpx u | .rorZpx u | .incZpx u | .decZpx u => some (.zpx u)
  | .ldxZpy u | .stxZpy u => some (.zpy u)
  | .ldaAbs u | .ldxAbs u | .ldyAbs u | .staAbs u | .stxAbs u | .styAbs u | .adcAbs u | .sbcAbs u | .cmpAbs u
  | .cpxAbs u | .cpyAbs u | .andAbs u | .oraAbs u | .eorAbs u | .bitAbs u | .aslAbs u | .lsrAbs u | .rolAbs u
  | .rorAbs u | .incAbs u | .decAbs u | .jmpAbs u => some (.abs u)
  | .ldaAbx u | .ldyAbx u | .staAbx u | .adcAbx u | .sbcAbx u | .cmpAbx u | .andAbx u | .oraAbx u | .eorAbx u
  | .aslAbx u | .lsrAbx u | .rolAbx u | .rorAbx u | .incAbx u | .decAbx u => some (.abx u)
  | .ldaAby u | .ldxAby u | .staAby u | .adcAby u | .sbcAby u | .cmpAby u | .andAby u | .oraAby u | .eorAby u => some (.aby u)
  | .jmpInd u => some (.ind u)
  | .ldaIzx u | .staIzx u | .adcIzx u | .sbcIzx u | .cmpIzx u | .andIzx u | .oraIzx u | .eorIzx u => some (.izx u)
  | .ldaIzy u | .staIzy u | .adcIzy u | .sbcIzy u | .cmpIzy u | .andIzy u | .oraIzy u | .eorIzy u => some (.izy u)
  | .tax | .tay | .txa | .tya | .tsx | .txs | .aslAcc | .lsrAcc | .rolAcc | .rorAcc | .inx | .iny | .dex | .dey
  | .clc | .cld | .cli | .clv | .sec | .sed | .sei | .nop | .jsr _ | .rts | .bcc _ | .bcs _ | .beq _ | .bmi _
  | .bne _ | .bpl _ | .bvc _ | .bvs _ | .pha | .php | .pla | .plp | .brk | .rti => none

end Sys2Proof.Machine
end

