-- ==== Sys2Proof/Machine/Arith.lean ====
section
/-! DEFINITION. The meanings of arithmetic and compare (`43_arithmetic_compare.md`), entered after the opcode
fetch. No instruction of this family raises an exception. -/

namespace Sys2Proof.Machine

/-- ADC on any operand form (R140): AC, N, V, Z, C. -/
def adc (o : Operand) (s : State) : State :=
  let (m, s) := readOperand o s
  let t := addWithCarry s.ac m s.sr.c
  { s with ac := t.r, sr := { s.sr with v := t.v, c := t.c } }.setNZ t.r

/-- ADC IMM, opcode 0x69 (R140, R101). -/
def execAdcImm (imm8 : Byte) (s : State) : Result := .next (adc (.imm imm8) s)

/-- ADC ZP, opcode 0x65 (R140, R102). -/
def execAdcZp (zp8 : Byte) (s : State) : Result := .next (adc (.zp zp8) s)

/-- ADC ZPX, opcode 0x75 (R140, R103). -/
def execAdcZpx (zp8 : Byte) (s : State) : Result := .next (adc (.zpx zp8) s)

/-- ADC ABS, opcode 0x6D (R140, R105). -/
def execAdcAbs (addr : Word) (s : State) : Result := .next (adc (.abs addr) s)

/-- ADC ABX, opcode 0x7D (R140, R106). -/
def execAdcAbx (base : Word) (s : State) : Result := .next (adc (.abx base) s)

/-- ADC ABY, opcode 0x79 (R140, R111). -/
def execAdcAby (base : Word) (s : State) : Result := .next (adc (.aby base) s)

/-- ADC IZX, opcode 0x61 (R140, R109). -/
def execAdcIzx (zp8 : Byte) (s : State) : Result := .next (adc (.izx zp8) s)

/-- ADC IZY, opcode 0x71 (R140, R110). -/
def execAdcIzy (zp8 : Byte) (s : State) : Result := .next (adc (.izy zp8) s)

/-- SBC on any operand form (R141): AC, N, V, Z, C. -/
def sbc (o : Operand) (s : State) : State :=
  let (m, s) := readOperand o s
  let t := subWithBorrow s.ac m s.sr.c
  { s with ac := t.r, sr := { s.sr with v := t.v, c := t.c } }.setNZ t.r

/-- SBC IMM, opcode 0xE9 (R141, R101). -/
def execSbcImm (imm8 : Byte) (s : State) : Result := .next (sbc (.imm imm8) s)

/-- SBC ZP, opcode 0xE5 (R141, R102). -/
def execSbcZp (zp8 : Byte) (s : State) : Result := .next (sbc (.zp zp8) s)

/-- SBC ZPX, opcode 0xF5 (R141, R103). -/
def execSbcZpx (zp8 : Byte) (s : State) : Result := .next (sbc (.zpx zp8) s)

/-- SBC ABS, opcode 0xED (R141, R105). -/
def execSbcAbs (addr : Word) (s : State) : Result := .next (sbc (.abs addr) s)

/-- SBC ABX, opcode 0xFD (R141, R106). -/
def execSbcAbx (base : Word) (s : State) : Result := .next (sbc (.abx base) s)

/-- SBC ABY, opcode 0xF9 (R141, R111). -/
def execSbcAby (base : Word) (s : State) : Result := .next (sbc (.aby base) s)

/-- SBC IZX, opcode 0xE1 (R141, R109). -/
def execSbcIzx (zp8 : Byte) (s : State) : Result := .next (sbc (.izx zp8) s)

/-- SBC IZY, opcode 0xF1 (R141, R110). -/
def execSbcIzy (zp8 : Byte) (s : State) : Result := .next (sbc (.izy zp8) s)

/-- CMP on any operand form (R142): N, Z, C; the register and V are unchanged. -/
def cmp (o : Operand) (s : State) : State :=
  let (m, s) := readOperand o s
  { s with sr := s.sr.compare s.ac m }

/-- CMP IMM, opcode 0xC9 (R142, R101). -/
def execCmpImm (imm8 : Byte) (s : State) : Result := .next (cmp (.imm imm8) s)

/-- CMP ZP, opcode 0xC5 (R142, R102). -/
def execCmpZp (zp8 : Byte) (s : State) : Result := .next (cmp (.zp zp8) s)

/-- CMP ZPX, opcode 0xD5 (R142, R103). -/
def execCmpZpx (zp8 : Byte) (s : State) : Result := .next (cmp (.zpx zp8) s)

/-- CMP ABS, opcode 0xCD (R142, R105). -/
def execCmpAbs (addr : Word) (s : State) : Result := .next (cmp (.abs addr) s)

/-- CMP ABX, opcode 0xDD (R142, R106). -/
def execCmpAbx (base : Word) (s : State) : Result := .next (cmp (.abx base) s)

/-- CMP ABY, opcode 0xD9 (R142, R111). -/
def execCmpAby (base : Word) (s : State) : Result := .next (cmp (.aby base) s)

/-- CMP IZX, opcode 0xC1 (R142, R109). -/
def execCmpIzx (zp8 : Byte) (s : State) : Result := .next (cmp (.izx zp8) s)

/-- CMP IZY, opcode 0xD1 (R142, R110). -/
def execCmpIzy (zp8 : Byte) (s : State) : Result := .next (cmp (.izy zp8) s)

/-- CPX on any operand form (R143): N, Z, C; the register and V are unchanged. -/
def cpx (o : Operand) (s : State) : State :=
  let (m, s) := readOperand o s
  { s with sr := s.sr.compare s.x m }

/-- CPX IMM, opcode 0xE0 (R143, R101). -/
def execCpxImm (imm8 : Byte) (s : State) : Result := .next (cpx (.imm imm8) s)

/-- CPX ZP, opcode 0xE4 (R143, R102). -/
def execCpxZp (zp8 : Byte) (s : State) : Result := .next (cpx (.zp zp8) s)

/-- CPX ABS, opcode 0xEC (R143, R105). -/
def execCpxAbs (addr : Word) (s : State) : Result := .next (cpx (.abs addr) s)

/-- CPY on any operand form (R144): N, Z, C; the register and V are unchanged. -/
def cpy (o : Operand) (s : State) : State :=
  let (m, s) := readOperand o s
  { s with sr := s.sr.compare s.y m }

/-- CPY IMM, opcode 0xC0 (R144, R101). -/
def execCpyImm (imm8 : Byte) (s : State) : Result := .next (cpy (.imm imm8) s)

/-- CPY ZP, opcode 0xC4 (R144, R102). -/
def execCpyZp (zp8 : Byte) (s : State) : Result := .next (cpy (.zp zp8) s)

/-- CPY ABS, opcode 0xCC (R144, R105). -/
def execCpyAbs (addr : Word) (s : State) : Result := .next (cpy (.abs addr) s)

end Sys2Proof.Machine
end

