-- ==== Sys2Proof/Machine/Control.lean ====
section
/-! DEFINITION. The meanings of jumps, subroutines and branches (`47_control_flow.md`), entered after the opcode
fetch. No instruction of this family raises an exception. -/

namespace Sys2Proof.Machine

/-- JMP on either operand form (R190): the effective address is the new PC, and no data is read at it. -/
def jmp (o : Operand) (s : State) : State :=
  let (ea, s) := resolve false o s
  { s with pc := ea }

/-- JMP ABS, opcode 0x4C (R190, R105). -/
def execJmpAbs (addr : Word) (s : State) : Result := .next (jmp (.abs addr) s)

/-- JMP IND, opcode 0x6C (R190, R108). -/
def execJmpInd (ptr : Word) (s : State) : Result := .next (jmp (.ind ptr) s)

/-- JSR (R191): both operand bytes are fetched, then `PC - 1` is pushed, high byte first. -/
def jsr (target : Word) (s : State) : State :=
  let s := s.consume
  let s := s.consume
  let ret := s.pc - 1
  let s := s.push (hi ret)
  let s := s.push (lo ret)
  let s := s.tick 1
  { s with pc := target }

/-- JSR ABS, opcode 0x20 (R191, R105). -/
def execJsr (addr : Word) (s : State) : Result := .next (jsr addr s)

/-- RTS (R192): low byte, high byte, and 1 added back. -/
def rts (s : State) : State :=
  let (l, s) := s.pop
  let (h, s) := s.pop
  let s := s.tick 3
  { s with pc := join h l + 1 }

/-- RTS, opcode 0x60 (R192). -/
def execRts (s : State) : Result := .next (rts s)

/-- BCC, opcode 0x90 (R194, R112). -/
def execBcc (rel8 : Byte) (s : State) : Result := .next (branch (!s.sr.c) rel8 s)

/-- BCS, opcode 0xB0 (R195, R112). -/
def execBcs (rel8 : Byte) (s : State) : Result := .next (branch s.sr.c rel8 s)

/-- BEQ, opcode 0xF0 (R196, R112). -/
def execBeq (rel8 : Byte) (s : State) : Result := .next (branch s.sr.z rel8 s)

/-- BMI, opcode 0x30 (R197, R112). -/
def execBmi (rel8 : Byte) (s : State) : Result := .next (branch s.sr.n rel8 s)

/-- BNE, opcode 0xD0 (R198, R112). -/
def execBne (rel8 : Byte) (s : State) : Result := .next (branch (!s.sr.z) rel8 s)

/-- BPL, opcode 0x10 (R199, R112). -/
def execBpl (rel8 : Byte) (s : State) : Result := .next (branch (!s.sr.n) rel8 s)

/-- BVC, opcode 0x50 (R200, R112). -/
def execBvc (rel8 : Byte) (s : State) : Result := .next (branch (!s.sr.v) rel8 s)

/-- BVS, opcode 0x70 (R201, R112). -/
def execBvs (rel8 : Byte) (s : State) : Result := .next (branch s.sr.v rel8 s)

end Sys2Proof.Machine
end

