-- ==== Sys2Proof/Machine/FlagNop.lean ====
section
/-! DEFINITION. The meanings of flag instructions and NOP (`46_flags_nop.md`), entered after the opcode
fetch. No instruction of this family raises an exception. -/

namespace Sys2Proof.Machine

/-- CLC (R180): exactly one flag, to a literal. -/
def clc (s : State) : State :=
  let s := s.tick 1
  { s with sr := { s.sr with c := false } }

/-- CLC, opcode 0x18 (R180). -/
def execClc (s : State) : Result := .next (clc s)

/-- CLD (R181): exactly one flag, to a literal. -/
def cld (s : State) : State :=
  let s := s.tick 1
  { s with sr := { s.sr with d := false } }

/-- CLD, opcode 0xD8 (R181). -/
def execCld (s : State) : Result := .next (cld s)

/-- CLI (R182): exactly one flag, to a literal. -/
def cli (s : State) : State :=
  let s := s.tick 1
  { s with sr := { s.sr with i := false } }

/-- CLI, opcode 0x58 (R182). -/
def execCli (s : State) : Result := .next (cli s)

/-- CLV (R183): exactly one flag, to a literal. -/
def clv (s : State) : State :=
  let s := s.tick 1
  { s with sr := { s.sr with v := false } }

/-- CLV, opcode 0xB8 (R183). -/
def execClv (s : State) : Result := .next (clv s)

/-- SEC (R184): exactly one flag, to a literal. -/
def sec (s : State) : State :=
  let s := s.tick 1
  { s with sr := { s.sr with c := true } }

/-- SEC, opcode 0x38 (R184). -/
def execSec (s : State) : Result := .next (sec s)

/-- SED (R185): exactly one flag, to a literal. -/
def sed (s : State) : State :=
  let s := s.tick 1
  { s with sr := { s.sr with d := true } }

/-- SED, opcode 0xF8 (R185). -/
def execSed (s : State) : Result := .next (sed s)

/-- SEI (R186): exactly one flag, to a literal. -/
def sei (s : State) : State :=
  let s := s.tick 1
  { s with sr := { s.sr with i := true } }

/-- SEI, opcode 0x78 (R186). -/
def execSei (s : State) : Result := .next (sei s)

/-- NOP, opcode 0xEA (R187). -/
def execNop (s : State) : Result := .next (s.tick 1)

end Sys2Proof.Machine
end

