-- ==== Sys2Proof/Machine/LoadStore.lean ====
section
/-! DEFINITION. The meanings of loads, stores and register transfers (`42_load_store_transfer.md`), entered after the opcode
fetch. No instruction of this family raises an exception. -/

namespace Sys2Proof.Machine

/-- LDA on any operand form (R120): the register and N, Z. -/
def lda (o : Operand) (s : State) : State :=
  let (v, s) := readOperand o s
  { s with ac := v }.setNZ v

/-- LDA IMM, opcode 0xA9 (R120, R101). -/
def execLdaImm (imm8 : Byte) (s : State) : Result := .next (lda (.imm imm8) s)

/-- LDA ZP, opcode 0xA5 (R120, R102). -/
def execLdaZp (zp8 : Byte) (s : State) : Result := .next (lda (.zp zp8) s)

/-- LDA ZPX, opcode 0xB5 (R120, R103). -/
def execLdaZpx (zp8 : Byte) (s : State) : Result := .next (lda (.zpx zp8) s)

/-- LDA ABS, opcode 0xAD (R120, R105). -/
def execLdaAbs (addr : Word) (s : State) : Result := .next (lda (.abs addr) s)

/-- LDA ABX, opcode 0xBD (R120, R106). -/
def execLdaAbx (base : Word) (s : State) : Result := .next (lda (.abx base) s)

/-- LDA ABY, opcode 0xB9 (R120, R111). -/
def execLdaAby (base : Word) (s : State) : Result := .next (lda (.aby base) s)

/-- LDA IZX, opcode 0xA1 (R120, R109). -/
def execLdaIzx (zp8 : Byte) (s : State) : Result := .next (lda (.izx zp8) s)

/-- LDA IZY, opcode 0xB1 (R120, R110). -/
def execLdaIzy (zp8 : Byte) (s : State) : Result := .next (lda (.izy zp8) s)

/-- LDX on any operand form (R121): the register and N, Z. -/
def ldx (o : Operand) (s : State) : State :=
  let (v, s) := readOperand o s
  { s with x := v }.setNZ v

/-- LDX IMM, opcode 0xA2 (R121, R101). -/
def execLdxImm (imm8 : Byte) (s : State) : Result := .next (ldx (.imm imm8) s)

/-- LDX ZP, opcode 0xA6 (R121, R102). -/
def execLdxZp (zp8 : Byte) (s : State) : Result := .next (ldx (.zp zp8) s)

/-- LDX ZPY, opcode 0xB6 (R121, R104). -/
def execLdxZpy (zp8 : Byte) (s : State) : Result := .next (ldx (.zpy zp8) s)

/-- LDX ABS, opcode 0xAE (R121, R105). -/
def execLdxAbs (addr : Word) (s : State) : Result := .next (ldx (.abs addr) s)

/-- LDX ABY, opcode 0xBE (R121, R111). -/
def execLdxAby (base : Word) (s : State) : Result := .next (ldx (.aby base) s)

/-- LDY on any operand form (R122): the register and N, Z. -/
def ldy (o : Operand) (s : State) : State :=
  let (v, s) := readOperand o s
  { s with y := v }.setNZ v

/-- LDY IMM, opcode 0xA0 (R122, R101). -/
def execLdyImm (imm8 : Byte) (s : State) : Result := .next (ldy (.imm imm8) s)

/-- LDY ZP, opcode 0xA4 (R122, R102). -/
def execLdyZp (zp8 : Byte) (s : State) : Result := .next (ldy (.zp zp8) s)

/-- LDY ZPX, opcode 0xB4 (R122, R103). -/
def execLdyZpx (zp8 : Byte) (s : State) : Result := .next (ldy (.zpx zp8) s)

/-- LDY ABS, opcode 0xAC (R122, R105). -/
def execLdyAbs (addr : Word) (s : State) : Result := .next (ldy (.abs addr) s)

/-- LDY ABX, opcode 0xBC (R122, R106). -/
def execLdyAbx (base : Word) (s : State) : Result := .next (ldy (.abx base) s)

/-- STA on any operand form (R123): one byte of memory, no flag. The resolvers leave the register alone (R100). -/
def sta (o : Operand) (s : State) : State := storeOperand o s.ac s

/-- STA ZP, opcode 0x85 (R123, R102). -/
def execStaZp (zp8 : Byte) (s : State) : Result := .next (sta (.zp zp8) s)

/-- STA ZPX, opcode 0x95 (R123, R103). -/
def execStaZpx (zp8 : Byte) (s : State) : Result := .next (sta (.zpx zp8) s)

/-- STA ABS, opcode 0x8D (R123, R105). -/
def execStaAbs (addr : Word) (s : State) : Result := .next (sta (.abs addr) s)

/-- STA ABX, opcode 0x9D (R123, R106). -/
def execStaAbx (base : Word) (s : State) : Result := .next (sta (.abx base) s)

/-- STA ABY, opcode 0x99 (R123, R111). -/
def execStaAby (base : Word) (s : State) : Result := .next (sta (.aby base) s)

/-- STA IZX, opcode 0x81 (R123, R109). -/
def execStaIzx (zp8 : Byte) (s : State) : Result := .next (sta (.izx zp8) s)

/-- STA IZY, opcode 0x91 (R123, R110). -/
def execStaIzy (zp8 : Byte) (s : State) : Result := .next (sta (.izy zp8) s)

/-- STX on any operand form (R124): one byte of memory, no flag. The resolvers leave the register alone (R100). -/
def stx (o : Operand) (s : State) : State := storeOperand o s.x s

/-- STX ZP, opcode 0x86 (R124, R102). -/
def execStxZp (zp8 : Byte) (s : State) : Result := .next (stx (.zp zp8) s)

/-- STX ZPY, opcode 0x96 (R124, R104). -/
def execStxZpy (zp8 : Byte) (s : State) : Result := .next (stx (.zpy zp8) s)

/-- STX ABS, opcode 0x8E (R124, R105). -/
def execStxAbs (addr : Word) (s : State) : Result := .next (stx (.abs addr) s)

/-- STY on any operand form (R125): one byte of memory, no flag. The resolvers leave the register alone (R100). -/
def sty (o : Operand) (s : State) : State := storeOperand o s.y s

/-- STY ZP, opcode 0x84 (R125, R102). -/
def execStyZp (zp8 : Byte) (s : State) : Result := .next (sty (.zp zp8) s)

/-- STY ZPX, opcode 0x94 (R125, R103). -/
def execStyZpx (zp8 : Byte) (s : State) : Result := .next (sty (.zpx zp8) s)

/-- STY ABS, opcode 0x8C (R125, R105). -/
def execStyAbs (addr : Word) (s : State) : Result := .next (sty (.abs addr) s)

/-- TAX (R126): X <- AC, N and Z. -/
def tax (s : State) : State :=
  let s := s.tick 1
  { s with x := s.ac }.setNZ s.ac

/-- TAX, opcode 0xAA (R126). -/
def execTax (s : State) : Result := .next (tax s)

/-- TAY (R127): Y <- AC, N and Z. -/
def tay (s : State) : State :=
  let s := s.tick 1
  { s with y := s.ac }.setNZ s.ac

/-- TAY, opcode 0xA8 (R127). -/
def execTay (s : State) : Result := .next (tay s)

/-- TXA (R128): AC <- X, N and Z. -/
def txa (s : State) : State :=
  let s := s.tick 1
  { s with ac := s.x }.setNZ s.x

/-- TXA, opcode 0x8A (R128). -/
def execTxa (s : State) : Result := .next (txa s)

/-- TYA (R129): AC <- Y, N and Z. -/
def tya (s : State) : State :=
  let s := s.tick 1
  { s with ac := s.y }.setNZ s.y

/-- TYA, opcode 0x98 (R129). -/
def execTya (s : State) : Result := .next (tya s)

/-- TSX (R130): X <- SP, N and Z. -/
def tsx (s : State) : State :=
  let s := s.tick 1
  { s with x := s.sp }.setNZ s.sp

/-- TSX, opcode 0xBA (R130). -/
def execTsx (s : State) : Result := .next (tsx s)

/-- TXS (R131): SP <- X, no flag. -/
def txs (s : State) : State :=
  let s := s.tick 1
  { s with sp := s.x }

/-- TXS, opcode 0x9A (R131). -/
def execTxs (s : State) : Result := .next (txs s)

end Sys2Proof.Machine
end

