-- ==== Sys2Proof/Machine/Logic.lean ====
section
/-! DEFINITION. The meanings of logical operations and bit test (`44_logic_bit.md`), entered after the opcode
fetch. No instruction of this family raises an exception. -/

namespace Sys2Proof.Machine

/-- AND on any operand form (R150): AC, N, Z. -/
def andAc (o : Operand) (s : State) : State :=
  let (m, s) := readOperand o s
  let r := s.ac &&& m
  { s with ac := r }.setNZ r

/-- AND IMM, opcode 0x29 (R150, R101). -/
def execAndImm (imm8 : Byte) (s : State) : Result := .next (andAc (.imm imm8) s)

/-- AND ZP, opcode 0x25 (R150, R102). -/
def execAndZp (zp8 : Byte) (s : State) : Result := .next (andAc (.zp zp8) s)

/-- AND ZPX, opcode 0x35 (R150, R103). -/
def execAndZpx (zp8 : Byte) (s : State) : Result := .next (andAc (.zpx zp8) s)

/-- AND ABS, opcode 0x2D (R150, R105). -/
def execAndAbs (addr : Word) (s : State) : Result := .next (andAc (.abs addr) s)

/-- AND ABX, opcode 0x3D (R150, R106). -/
def execAndAbx (base : Word) (s : State) : Result := .next (andAc (.abx base) s)

/-- AND ABY, opcode 0x39 (R150, R111). -/
def execAndAby (base : Word) (s : State) : Result := .next (andAc (.aby base) s)

/-- AND IZX, opcode 0x21 (R150, R109). -/
def execAndIzx (zp8 : Byte) (s : State) : Result := .next (andAc (.izx zp8) s)

/-- AND IZY, opcode 0x31 (R150, R110). -/
def execAndIzy (zp8 : Byte) (s : State) : Result := .next (andAc (.izy zp8) s)

/-- ORA on any operand form (R151): AC, N, Z. -/
def oraAc (o : Operand) (s : State) : State :=
  let (m, s) := readOperand o s
  let r := s.ac ||| m
  { s with ac := r }.setNZ r

/-- ORA IMM, opcode 0x09 (R151, R101). -/
def execOraImm (imm8 : Byte) (s : State) : Result := .next (oraAc (.imm imm8) s)

/-- ORA ZP, opcode 0x05 (R151, R102). -/
def execOraZp (zp8 : Byte) (s : State) : Result := .next (oraAc (.zp zp8) s)

/-- ORA ZPX, opcode 0x15 (R151, R103). -/
def execOraZpx (zp8 : Byte) (s : State) : Result := .next (oraAc (.zpx zp8) s)

/-- ORA ABS, opcode 0x0D (R151, R105). -/
def execOraAbs (addr : Word) (s : State) : Result := .next (oraAc (.abs addr) s)

/-- ORA ABX, opcode 0x1D (R151, R106). -/
def execOraAbx (base : Word) (s : State) : Result := .next (oraAc (.abx base) s)

/-- ORA ABY, opcode 0x19 (R151, R111). -/
def execOraAby (base : Word) (s : State) : Result := .next (oraAc (.aby base) s)

/-- ORA IZX, opcode 0x01 (R151, R109). -/
def execOraIzx (zp8 : Byte) (s : State) : Result := .next (oraAc (.izx zp8) s)

/-- ORA IZY, opcode 0x11 (R151, R110). -/
def execOraIzy (zp8 : Byte) (s : State) : Result := .next (oraAc (.izy zp8) s)

/-- EOR on any operand form (R152): AC, N, Z. -/
def eorAc (o : Operand) (s : State) : State :=
  let (m, s) := readOperand o s
  let r := s.ac ^^^ m
  { s with ac := r }.setNZ r

/-- EOR IMM, opcode 0x49 (R152, R101). -/
def execEorImm (imm8 : Byte) (s : State) : Result := .next (eorAc (.imm imm8) s)

/-- EOR ZP, opcode 0x45 (R152, R102). -/
def execEorZp (zp8 : Byte) (s : State) : Result := .next (eorAc (.zp zp8) s)

/-- EOR ZPX, opcode 0x55 (R152, R103). -/
def execEorZpx (zp8 : Byte) (s : State) : Result := .next (eorAc (.zpx zp8) s)

/-- EOR ABS, opcode 0x4D (R152, R105). -/
def execEorAbs (addr : Word) (s : State) : Result := .next (eorAc (.abs addr) s)

/-- EOR ABX, opcode 0x5D (R152, R106). -/
def execEorAbx (base : Word) (s : State) : Result := .next (eorAc (.abx base) s)

/-- EOR ABY, opcode 0x59 (R152, R111). -/
def execEorAby (base : Word) (s : State) : Result := .next (eorAc (.aby base) s)

/-- EOR IZX, opcode 0x41 (R152, R109). -/
def execEorIzx (zp8 : Byte) (s : State) : Result := .next (eorAc (.izx zp8) s)

/-- EOR IZY, opcode 0x51 (R152, R110). -/
def execEorIzy (zp8 : Byte) (s : State) : Result := .next (eorAc (.izy zp8) s)

/-- BIT on any operand form (R153): Z, N, V; AC and C are unchanged. -/
def bitTestAc (o : Operand) (s : State) : State :=
  let (m, s) := readOperand o s
  { s with sr := s.sr.bitTest s.ac m }

/-- BIT ZP, opcode 0x24 (R153, R102). -/
def execBitZp (zp8 : Byte) (s : State) : Result := .next (bitTestAc (.zp zp8) s)

/-- BIT ABS, opcode 0x2C (R153, R105). -/
def execBitAbs (addr : Word) (s : State) : Result := .next (bitTestAc (.abs addr) s)

end Sys2Proof.Machine
end

