-- ==== Sys2Proof/Machine/Shift.lean ====
section
/-! DEFINITION. The meanings of shifts, rotates, increments and decrements (`45_shift_rotate_incdec.md`), entered after the opcode
fetch. No instruction of this family raises an exception. -/

namespace Sys2Proof.Machine

/-- ASL ACC, opcode 0x0A (R161). -/
def execAslAcc (s : State) : Result := .next (rmwAcc modifyAsl s)

/-- ASL ZP, opcode 0x06 (R161, R102). -/
def execAslZp (zp8 : Byte) (s : State) : Result := .next (rmwMem modifyAsl (.zp zp8) s)

/-- ASL ZPX, opcode 0x16 (R161, R103). -/
def execAslZpx (zp8 : Byte) (s : State) : Result := .next (rmwMem modifyAsl (.zpx zp8) s)

/-- ASL ABS, opcode 0x0E (R161, R105). -/
def execAslAbs (addr : Word) (s : State) : Result := .next (rmwMem modifyAsl (.abs addr) s)

/-- ASL ABX, opcode 0x1E (R161, R106). -/
def execAslAbx (base : Word) (s : State) : Result := .next (rmwMem modifyAsl (.abx base) s)

/-- LSR ACC, opcode 0x4A (R162). -/
def execLsrAcc (s : State) : Result := .next (rmwAcc modifyLsr s)

/-- LSR ZP, opcode 0x46 (R162, R102). -/
def execLsrZp (zp8 : Byte) (s : State) : Result := .next (rmwMem modifyLsr (.zp zp8) s)

/-- LSR ZPX, opcode 0x56 (R162, R103). -/
def execLsrZpx (zp8 : Byte) (s : State) : Result := .next (rmwMem modifyLsr (.zpx zp8) s)

/-- LSR ABS, opcode 0x4E (R162, R105). -/
def execLsrAbs (addr : Word) (s : State) : Result := .next (rmwMem modifyLsr (.abs addr) s)

/-- LSR ABX, opcode 0x5E (R162, R106). -/
def execLsrAbx (base : Word) (s : State) : Result := .next (rmwMem modifyLsr (.abx base) s)

/-- ROL ACC, opcode 0x2A (R163). -/
def execRolAcc (s : State) : Result := .next (rmwAcc modifyRol s)

/-- ROL ZP, opcode 0x26 (R163, R102). -/
def execRolZp (zp8 : Byte) (s : State) : Result := .next (rmwMem modifyRol (.zp zp8) s)

/-- ROL ZPX, opcode 0x36 (R163, R103). -/
def execRolZpx (zp8 : Byte) (s : State) : Result := .next (rmwMem modifyRol (.zpx zp8) s)

/-- ROL ABS, opcode 0x2E (R163, R105). -/
def execRolAbs (addr : Word) (s : State) : Result := .next (rmwMem modifyRol (.abs addr) s)

/-- ROL ABX, opcode 0x3E (R163, R106). -/
def execRolAbx (base : Word) (s : State) : Result := .next (rmwMem modifyRol (.abx base) s)

/-- ROR ACC, opcode 0x6A (R164). -/
def execRorAcc (s : State) : Result := .next (rmwAcc modifyRor s)

/-- ROR ZP, opcode 0x66 (R164, R102). -/
def execRorZp (zp8 : Byte) (s : State) : Result := .next (rmwMem modifyRor (.zp zp8) s)

/-- ROR ZPX, opcode 0x76 (R164, R103). -/
def execRorZpx (zp8 : Byte) (s : State) : Result := .next (rmwMem modifyRor (.zpx zp8) s)

/-- ROR ABS, opcode 0x6E (R164, R105). -/
def execRorAbs (addr : Word) (s : State) : Result := .next (rmwMem modifyRor (.abs addr) s)

/-- ROR ABX, opcode 0x7E (R164, R106). -/
def execRorAbx (base : Word) (s : State) : Result := .next (rmwMem modifyRor (.abx base) s)

/-- INC ZP, opcode 0xE6 (R165, R102). -/
def execIncZp (zp8 : Byte) (s : State) : Result := .next (rmwMem modifyInc (.zp zp8) s)

/-- INC ZPX, opcode 0xF6 (R165, R103). -/
def execIncZpx (zp8 : Byte) (s : State) : Result := .next (rmwMem modifyInc (.zpx zp8) s)

/-- INC ABS, opcode 0xEE (R165, R105). -/
def execIncAbs (addr : Word) (s : State) : Result := .next (rmwMem modifyInc (.abs addr) s)

/-- INC ABX, opcode 0xFE (R165, R106). -/
def execIncAbx (base : Word) (s : State) : Result := .next (rmwMem modifyInc (.abx base) s)

/-- DEC ZP, opcode 0xC6 (R166, R102). -/
def execDecZp (zp8 : Byte) (s : State) : Result := .next (rmwMem modifyDec (.zp zp8) s)

/-- DEC ZPX, opcode 0xD6 (R166, R103). -/
def execDecZpx (zp8 : Byte) (s : State) : Result := .next (rmwMem modifyDec (.zpx zp8) s)

/-- DEC ABS, opcode 0xCE (R166, R105). -/
def execDecAbs (addr : Word) (s : State) : Result := .next (rmwMem modifyDec (.abs addr) s)

/-- DEC ABX, opcode 0xDE (R166, R106). -/
def execDecAbx (base : Word) (s : State) : Result := .next (rmwMem modifyDec (.abx base) s)

/-- INX (R167): modulo 256; Z is a comparison with zero. -/
def inx (s : State) : State :=
  let s := s.tick 1
  let r := s.x + 1
  { s with x := r }.setNZ r

/-- INX, opcode 0xE8 (R167). -/
def execInx (s : State) : Result := .next (inx s)

/-- INY (R168): modulo 256; Z is a comparison with zero. -/
def iny (s : State) : State :=
  let s := s.tick 1
  let r := s.y + 1
  { s with y := r }.setNZ r

/-- INY, opcode 0xC8 (R168). -/
def execIny (s : State) : Result := .next (iny s)

/-- DEX (R169): modulo 256; Z is a comparison with zero. -/
def dex (s : State) : State :=
  let s := s.tick 1
  let r := s.x - 1
  { s with x := r }.setNZ r

/-- DEX, opcode 0xCA (R169). -/
def execDex (s : State) : Result := .next (dex s)

/-- DEY (R170): modulo 256; Z is a comparison with zero. -/
def dey (s : State) : State :=
  let s := s.tick 1
  let r := s.y - 1
  { s with y := r }.setNZ r

/-- DEY, opcode 0x88 (R170). -/
def execDey (s : State) : Result := .next (dey s)

end Sys2Proof.Machine
end

