-- ==== Sys2Proof/Machine/Stack.lean ====
section
/-! DEFINITION. The meanings of stack instructions, BRK and RTI (`48_stack_brk_rti.md`), entered after the opcode
fetch. No instruction of this family raises an exception. -/

namespace Sys2Proof.Machine

/-- PHA (R210). -/
def pha (s : State) : State := (s.push s.ac).tick 1

/-- PHA, opcode 0x48 (R210). -/
def execPha (s : State) : Result := .next (pha s)

/-- PHP (R211): bit 5 of the pushed byte is 1 and bit 4 is the stored B. -/
def php (s : State) : State := (s.push s.sr.flatten).tick 1

/-- PHP, opcode 0x08 (R211). -/
def execPhp (s : State) : Result := .next (php s)

/-- PLA (R212): AC and N, Z. -/
def pla (s : State) : State :=
  let (v, s) := s.pop
  ({ s with ac := v }.setNZ v).tick 2

/-- PLA, opcode 0x68 (R212). -/
def execPla (s : State) : Result := .next (pla s)

/-- PLP (R213): all seven flags. -/
def plp (s : State) : State :=
  let (b, s) := s.pop
  { s with sr := Flags.unflatten b }.tick 2

/-- PLP, opcode 0x28 (R213). -/
def execPlp (s : State) : Result := .next (plp s)

/-- BRK, opcode 0x00 (R214). -/
def execBrk (s : State) : Result := .next (s.trapEntry)

/-- RTI, opcode 0x40 (R215). -/
def execRti (s : State) : Result := .next (s.trapReturn)

end Sys2Proof.Machine
end

