-- ==== Sys2Proof/WellFormed.lean ====
section
/-! DEFINITION. What is well-formed: an instruction pairs a mnemonic with a mode that mnemonic has
(`30_encoding.md` R63, R68), and a program image fits the memory (`00_scope.md` R6). Operand fields are typed
at their exact width, and every operand value is legal (R66), so there is no check on them. -/

namespace Sys2Proof

/-- The modes of each mnemonic: the rows of R63. -/
def Mnemonic.modes : Mnemonic → List Mode
  | .adc | .and | .cmp | .eor | .lda | .ora | .sbc => [.imm, .zp, .zpx, .abs, .abx, .aby, .izx, .izy]
  | .sta => [.zp, .zpx, .abs, .abx, .aby, .izx, .izy]
  | .ldx => [.imm, .zp, .zpy, .abs, .aby]
  | .ldy => [.imm, .zp, .zpx, .abs, .abx]
  | .stx => [.zp, .zpy, .abs]
  | .sty => [.zp, .zpx, .abs]
  | .cpx | .cpy => [.imm, .zp, .abs]
  | .bit => [.zp, .abs]
  | .asl | .lsr | .rol | .ror => [.acc, .zp, .zpx, .abs, .abx]
  | .inc | .dec => [.zp, .zpx, .abs, .abx]
  | .jmp => [.abs, .ind]
  | .jsr => [.abs]
  | .bcc | .bcs | .beq | .bmi | .bne | .bpl | .bvc | .bvs => [.rel]
  | .tax | .tay | .txa | .tya | .tsx | .txs | .inx | .iny | .dex | .dey => [.imp]
  | .clc | .cld | .cli | .clv | .sec | .sed | .sei | .nop => [.imp]
  | .rts | .pha | .php | .pla | .plp | .brk | .rti => [.imp]

/-- The check on a pair (mnemonic, mode): R63 has a cell for it. -/
def pairWellFormed (m : Mnemonic) (mode : Mode) : Bool := m.modes.contains mode

/-- An instruction is well-formed when its pair is. -/
def Instr.wf (i : Instr) : Bool := pairWellFormed i.mnemonic i.mode

/-- `PROG_LEN` is at most 65536 (R6, `93_implementation_defined.md` U10). -/
def Config.Params.wf (p : Config.Params) : Bool := decide (p.program.length ≤ 65536)

end Sys2Proof
end

