-- ==== Sys2Proof/Decode.lean ====
section
/-! DEFINITION. The opcode dispatch table (`30_encoding.md` R64), the decoder over it, total on any bytes and
rejecting by name, and the encoder, written from the table by mnemonic (R63). -/

namespace Sys2Proof

/-- What a table entry builds from the operand bytes that follow the opcode (R60). -/
inductive Entry where
  | bare (i : Instr)
  | byte (f : Byte → Instr)
  | word (f : Word → Instr)

/-- Row 0x of R64. -/
def opRow0 : List (Option Entry) :=
  [some (.bare .brk), some (.byte Instr.oraIzx), none, none,
   none, some (.byte Instr.oraZp), some (.byte Instr.aslZp), none,
   some (.bare .php), some (.byte Instr.oraImm), some (.bare .aslAcc), none,
   none, some (.word Instr.oraAbs), some (.word Instr.aslAbs), none]

/-- Row 1x of R64. -/
def opRow1 : List (Option Entry) :=
  [some (.byte Instr.bpl), some (.byte Instr.oraIzy), none, none,
   none, some (.byte Instr.oraZpx), some (.byte Instr.aslZpx), none,
   some (.bare .clc), some (.word Instr.oraAby), none, none,
   none, some (.word Instr.oraAbx), some (.word Instr.aslAbx), none]

/-- Row 2x of R64. -/
def opRow2 : List (Option Entry) :=
  [some (.word Instr.jsr), some (.byte Instr.andIzx), none, none,
   some (.byte Instr.bitZp), some (.byte Instr.andZp), some (.byte Instr.rolZp), none,
   some (.bare .plp), some (.byte Instr.andImm), some (.bare .rolAcc), none,
   some (.word Instr.bitAbs), some (.word Instr.andAbs), some (.word Instr.rolAbs), none]

/-- Row 3x of R64. -/
def opRow3 : List (Option Entry) :=
  [some (.byte Instr.bmi), some (.byte Instr.andIzy), none, none,
   none, some (.byte Instr.andZpx), some (.byte Instr.rolZpx), none,
   some (.bare .sec), some (.word Instr.andAby), none, none,
   none, some (.word Instr.andAbx), some (.word Instr.rolAbx), none]

/-- Row 4x of R64. -/
def opRow4 : List (Option Entry) :=
  [some (.bare .rti), some (.byte Instr.eorIzx), none, none,
   none, some (.byte Instr.eorZp), some (.byte Instr.lsrZp), none,
   some (.bare .pha), some (.byte Instr.eorImm), some (.bare .lsrAcc), none,
   some (.word Instr.jmpAbs), some (.word Instr.eorAbs), some (.word Instr.lsrAbs), none]

/-- Row 5x of R64. -/
def opRow5 : List (Option Entry) :=
  [some (.byte Instr.bvc), some (.byte Instr.eorIzy), none, none,
   none, some (.byte Instr.eorZpx), some (.byte Instr.lsrZpx), none,
   some (.bare .cli), some (.word Instr.eorAby), none, none,
   none, some (.word Instr.eorAbx), some (.word Instr.lsrAbx), none]

/-- Row 6x of R64. -/
def opRow6 : List (Option Entry) :=
  [some (.bare .rts), some (.byte Instr.adcIzx), none, none,
   none, some (.byte Instr.adcZp), some (.byte Instr.rorZp), none,
   some (.bare .pla), some (.byte Instr.adcImm), some (.bare .rorAcc), none,
   some (.word Instr.jmpInd), some (.word Instr.adcAbs), some (.word Instr.rorAbs), none]

/-- Row 7x of R64. -/
def opRow7 : List (Option Entry) :=
  [some (.byte Instr.bvs), some (.byte Instr.adcIzy), none, none,
   none, some (.byte Instr.adcZpx), some (.byte Instr.rorZpx), none,
   some (.bare .sei), some (.word Instr.adcAby), none, none,
   none, some (.word Instr.adcAbx), some (.word Instr.rorAbx), none]

/-- Row 8x of R64. -/
def opRow8 : List (Option Entry) :=
  [none, some (.byte Instr.staIzx), none, none,
   some (.byte Instr.styZp), some (.byte Instr.staZp), some (.byte Instr.stxZp), none,
   some (.bare .dey), none, some (.bare .txa), none,
   some (.word Instr.styAbs), some (.word Instr.staAbs), some (.word Instr.stxAbs), none]

/-- Row 9x of R64. -/
def opRow9 : List (Option Entry) :=
  [some (.byte Instr.bcc), some (.byte Instr.staIzy), none, none,
   some (.byte Instr.styZpx), some (.byte Instr.staZpx), some (.byte Instr.stxZpy), none,
   some (.bare .tya), some (.word Instr.staAby), some (.bare .txs), none,
   none, some (.word Instr.staAbx), none, none]

/-- Row Ax of R64. -/
def opRowA : List (Option Entry) :=
  [some (.byte Instr.ldyImm), some (.byte Instr.ldaIzx), some (.byte Instr.ldxImm), none,
   some (.byte Instr.ldyZp), some (.byte Instr.ldaZp), some (.byte Instr.ldxZp), none,
   some (.bare .tay), some (.byte Instr.ldaImm), some (.bare .tax), none,
   some (.word Instr.ldyAbs), some (.word Instr.ldaAbs), some (.word Instr.ldxAbs), none]

/-- Row Bx of R64. -/
def opRowB : List (Option Entry) :=
  [some (.byte Instr.bcs), some (.byte Instr.ldaIzy), none, none,
   some (.byte Instr.ldyZpx), some (.byte Instr.ldaZpx), some (.byte Instr.ldxZpy), none,
   some (.bare .clv), some (.word Instr.ldaAby), some (.bare .tsx), none,
   some (.word Instr.ldyAbx), some (.word Instr.ldaAbx), some (.word Instr.ldxAby), none]

/-- Row Cx of R64. -/
def opRowC : List (Option Entry) :=
  [some (.byte Instr.cpyImm), some (.byte Instr.cmpIzx), none, none,
   some (.byte Instr.cpyZp), some (.byte Instr.cmpZp), some (.byte Instr.decZp), none,
   some (.bare .iny), some (.byte Instr.cmpImm), some (.bare .dex), none,
   some (.word Instr.cpyAbs), some (.word Instr.cmpAbs), some (.word Instr.decAbs), none]

/-- Row Dx of R64. -/
def opRowD : List (Option Entry) :=
  [some (.byte Instr.bne), some (.byte Instr.cmpIzy), none, none,
   none, some (.byte Instr.cmpZpx), some (.byte Instr.decZpx), none,
   some (.bare .cld), some (.word Instr.cmpAby), none, none,
   none, some (.word Instr.cmpAbx), some (.word Instr.decAbx), none]

/-- Row Ex of R64. -/
def opRowE : List (Option Entry) :=
  [some (.byte Instr.cpxImm), some (.byte Instr.sbcIzx), none, none,
   some (.byte Instr.cpxZp), some (.byte Instr.sbcZp), some (.byte Instr.incZp), none,
   some (.bare .inx), some (.byte Instr.sbcImm), some (.bare .nop), none,
   some (.word Instr.cpxAbs), some (.word Instr.sbcAbs), some (.word Instr.incAbs), none]

/-- Row Fx of R64. -/
def opRowF : List (Option Entry) :=
  [some (.byte Instr.beq), some (.byte Instr.sbcIzy), none, none,
   none, some (.byte Instr.sbcZpx), some (.byte Instr.incZpx), none,
   some (.bare .sed), some (.word Instr.sbcAby), none, none,
   none, some (.word Instr.sbcAbx), some (.word Instr.incAbx), none]

/-- The dispatch table of R64: sixteen rows of sixteen, `none` where there is no entry (R65). It is a constant,
the same for every instance (R21, R68). -/
def opTable : List (List (Option Entry)) :=
  [opRow0, opRow1, opRow2, opRow3, opRow4, opRow5, opRow6, opRow7] ++
  [opRow8, opRow9, opRowA, opRowB, opRowC, opRowD, opRowE, opRowF]

/-- The entry of an opcode byte, indexed by its two nibbles (R61, R64). -/
def tableEntry (op : Byte) : Option Entry :=
  match opTable[op.toNat / 16]? with
  | none => none
  | some row =>
    match row[op.toNat % 16]? with
    | none => none
    | some e => e

/-- Why a byte list does not begin with an instruction. -/
inductive DecodeError where
  /-- There is no byte. -/
  | empty
  /-- The opcode has no table entry (R65). -/
  | noEntry (op : Byte)
  /-- The opcode has an entry, and its operand bytes are missing. -/
  | truncated (op : Byte)
  deriving DecidableEq, Repr

/-- The instruction at the head of a byte list, with the bytes after it. Operand bytes lie low first (R62). -/
def decode : List Byte → Except DecodeError (Instr × List Byte)
  | [] => .error .empty
  | op :: rest =>
    match tableEntry op with
    | none => .error (.noEntry op)
    | some (.bare i) => .ok (i, rest)
    | some (.byte f) =>
      match rest with
      | b :: rest => .ok (f b, rest)
      | [] => .error (.truncated op)
    | some (.word f) =>
      match rest with
      | l :: h :: rest => .ok (f (join h l), rest)
      | _ => .error (.truncated op)

/-- The longest instruction, in bytes (R60). -/
def maxLength : Nat := 3

/-- The bytes of a table word numbered from bit 0 of the first byte: `w`'s low `nbits` bits and zeros above,
as many bytes as the longest instruction has. -/
def tableBytes (nbits w : Nat) : List Byte :=
  let v := w % 2 ^ nbits
  [BitVec.ofNat 8 v, BitVec.ofNat 8 (v / 256), BitVec.ofNat 8 (v / 65536)]

/-- The instruction the decoder reads from a table word; none where it refuses. -/
def decodeTableWord (nbits w : Nat) : Option Instr :=
  match decode (tableBytes nbits w) with
  | .ok (i, _) => some i
  | .error _ => none

/-- The bytes of an instruction: the opcode of R63, then the operand bytes, low first (R60, R62). -/
def encode : Instr → List Byte
  | .ldaImm b => [0xA9, b]
  | .ldaZp b => [0xA5, b]
  | .ldaZpx b => [0xB5, b]
  | .ldaAbs a => [0xAD, lo a, hi a]
  | .ldaAbx a => [0xBD, lo a, hi a]
  | .ldaAby a => [0xB9, lo a, hi a]
  | .ldaIzx b => [0xA1, b]
  | .ldaIzy b => [0xB1, b]
  | .ldxImm b => [0xA2, b]
  | .ldxZp b => [0xA6, b]
  | .ldxZpy b => [0xB6, b]
  | .ldxAbs a => [0xAE, lo a, hi a]
  | .ldxAby a => [0xBE, lo a, hi a]
  | .ldyImm b => [0xA0, b]
  | .ldyZp b => [0xA4, b]
  | .ldyZpx b => [0xB4, b]
  | .ldyAbs a => [0xAC, lo a, hi a]
  | .ldyAbx a => [0xBC, lo a, hi a]
  | .staZp b => [0x85, b]
  | .staZpx b => [0x95, b]
  | .staAbs a => [0x8D, lo a, hi a]
  | .staAbx a => [0x9D, lo a, hi a]
  | .staAby a => [0x99, lo a, hi a]
  | .staIzx b => [0x81, b]
  | .staIzy b => [0x91, b]
  | .stxZp b => [0x86, b]
  | .stxZpy b => [0x96, b]
  | .stxAbs a => [0x8E, lo a, hi a]
  | .styZp b => [0x84, b]
  | .styZpx b => [0x94, b]
  | .styAbs a => [0x8C, lo a, hi a]
  | .tax => [0xAA]
  | .tay => [0xA8]
  | .txa => [0x8A]
  | .tya => [0x98]
  | .tsx => [0xBA]
  | .txs => [0x9A]
  | .adcImm b => [0x69, b]
  | .adcZp b => [0x65, b]
  | .adcZpx b => [0x75, b]
  | .adcAbs a => [0x6D, lo a, hi a]
  | .adcAbx a => [0x7D, lo a, hi a]
  | .adcAby a => [0x79, lo a, hi a]
  | .adcIzx b => [0x61, b]
  | .adcIzy b => [0x71, b]
  | .sbcImm b => [0xE9, b]
  | .sbcZp b => [0xE5, b]
  | .sbcZpx b => [0xF5, b]
  | .sbcAbs a => [0xED, lo a, hi a]
  | .sbcAbx a => [0xFD, lo a, hi a]
  | .sbcAby a => [0xF9, lo a, hi a]
  | .sbcIzx b => [0xE1, b]
  | .sbcIzy b => [0xF1, b]
  | .cmpImm b => [0xC9, b]
  | .cmpZp b => [0xC5, b]
  | .cmpZpx b => [0xD5, b]
  | .cmpAbs a => [0xCD, lo a, hi a]
  | .cmpAbx a => [0xDD, lo a, hi a]
  | .cmpAby a => [0xD9, lo a, hi a]
  | .cmpIzx b => [0xC1, b]
  | .cmpIzy b => [0xD1, b]
  | .cpxImm b => [0xE0, b]
  | .cpxZp b => [0xE4, b]
  | .cpxAbs a => [0xEC, lo a, hi a]
  | .cpyImm b => [0xC0, b]
  | .cpyZp b => [0xC4, b]
  | .cpyAbs a => [0xCC, lo a, hi a]
  | .andImm b => [0x29, b]
  | .andZp b => [0x25, b]
  | .andZpx b => [0x35, b]
  | .andAbs a => [0x2D, lo a, hi a]
  | .andAbx a => [0x3D, lo a, hi a]
  | .andAby a => [0x39, lo a, hi a]
  | .andIzx b => [0x21, b]
  | .andIzy b => [0x31, b]
  | .oraImm b => [0x09, b]
  | .oraZp b => [0x05, b]
  | .oraZpx b => [0x15, b]
  | .oraAbs a => [0x0D, lo a, hi a]
  | .oraAbx a => [0x1D, lo a, hi a]
  | .oraAby a => [0x19, lo a, hi a]
  | .oraIzx b => [0x01, b]
  | .oraIzy b => [0x11, b]
  | .eorImm b => [0x49, b]
  | .eorZp b => [0x45, b]
  | .eorZpx b => [0x55, b]
  | .eorAbs a => [0x4D, lo a, hi a]
  | .eorAbx a => [0x5D, lo a, hi a]
  | .eorAby a => [0x59, lo a, hi a]
  | .eorIzx b => [0x41, b]
  | .eorIzy b => [0x51, b]
  | .bitZp b => [0x24, b]
  | .bitAbs a => [0x2C, lo a, hi a]
  | .aslAcc => [0x0A]
  | .aslZp b => [0x06, b]
  | .aslZpx b => [0x16, b]
  | .aslAbs a => [0x0E, lo a, hi a]
  | .aslAbx a => [0x1E, lo a, hi a]
  | .lsrAcc => [0x4A]
  | .lsrZp b => [0x46, b]
  | .lsrZpx b => [0x56, b]
  | .lsrAbs a => [0x4E, lo a, hi a]
  | .lsrAbx a => [0x5E, lo a, hi a]
  | .rolAcc => [0x2A]
  | .rolZp b => [0x26, b]
  | .rolZpx b => [0x36, b]
  | .rolAbs a => [0x2E, lo a, hi a]
  | .rolAbx a => [0x3E, lo a, hi a]
  | .rorAcc => [0x6A]
  | .rorZp b => [0x66, b]
  | .rorZpx b => [0x76, b]
  | .rorAbs a => [0x6E, lo a, hi a]
  | .rorAbx a => [0x7E, lo a, hi a]
  | .incZp b => [0xE6, b]
  | .incZpx b => [0xF6, b]
  | .incAbs a => [0xEE, lo a, hi a]
  | .incAbx a => [0xFE, lo a, hi a]
  | .decZp b => [0xC6, b]
  | .decZpx b => [0xD6, b]
  | .decAbs a => [0xCE, lo a, hi a]
  | .decAbx a => [0xDE, lo a, hi a]
  | .inx => [0xE8]
  | .iny => [0xC8]
  | .dex => [0xCA]
  | .dey => [0x88]
  | .clc => [0x18]
  | .cld => [0xD8]
  | .cli => [0x58]
  | .clv => [0xB8]
  | .sec => [0x38]
  | .sed => [0xF8]
  | .sei => [0x78]
  | .nop => [0xEA]
  | .jmpAbs a => [0x4C, lo a, hi a]
  | .jmpInd a => [0x6C, lo a, hi a]
  | .jsr a => [0x20, lo a, hi a]
  | .rts => [0x60]
  | .bcc b => [0x90, b]
  | .bcs b => [0xB0, b]
  | .beq b => [0xF0, b]
  | .bmi b => [0x30, b]
  | .bne b => [0xD0, b]
  | .bpl b => [0x10, b]
  | .bvc b => [0x50, b]
  | .bvs b => [0x70, b]
  | .pha => [0x48]
  | .php => [0x08]
  | .pla => [0x68]
  | .plp => [0x28]
  | .brk => [0x00]
  | .rti => [0x40]

end Sys2Proof
end

