-- ==== Sys2Proof/Machine/Fetch.lean ====
section
/-! DEFINITION. The bytes an instruction is fetched from (`30_encoding.md` R60, `10_state.md` R24): ascending
addresses modulo 65536 from PC. -/

namespace Sys2Proof.Machine

/-- The opcode byte at PC (R24). -/
def State.opcodeAt (s : State) : Byte := Memory.read s.mem s.pc.toNat

/-- The bytes at PC, PC + 1 and PC + 2, as many as the longest instruction has (R60). -/
def State.fetchBytes (s : State) : List Byte :=
  [Memory.read s.mem s.pc.toNat, Memory.read s.mem (s.pc + 1).toNat, Memory.read s.mem (s.pc + 2).toNat]

/-- The state after the opcode fetch: PC past the opcode byte, one cycle charged (R81). It is also the state
at a ProgrammingFault (R222). -/
def State.afterOpcodeFetch (s : State) : State := s.fetch.2

end Sys2Proof.Machine
end

