-- ==== Sys2Proof/Machine/Step.lean ====
section
/-! DEFINITION. One step: exactly one instruction, from its opcode fetch to its last state change
(`40_execution_loop.md` R81). The termination policy is tested by the loop (Machine/Loop.lean), not here. -/

namespace Sys2Proof.Machine

/-- Step (R81): the opcode is fetched; an opcode with no table entry raises ProgrammingFault with the opcode
and the address it was fetched from (R220, R222); any other instruction is executed with PC at its first
operand byte. Three bytes are never too few, so `noEntry` is the only decoding error here. -/
def step (s : State) : Host.Outcome State Fault Refusal :=
  match decode s.fetchBytes with
  | .ok (i, _) => exec i s.afterOpcodeFetch
  | .error _ => raiseNoEntry s.opcodeAt s.pc

/-- `s` with the bytes of a table word stored where `step` fetches its next instruction: at PC, PC + 1 and
PC + 2. It stands for the construction of a machine whose image holds them there (log 2). -/
def State.withFetchWord (s : State) (nbits w : Nat) : State :=
  { s with mem := Memory.bulkWrite s.mem s.pc (tableBytes nbits w) }

end Sys2Proof.Machine
end

