-- ==== Sys2Proof/Machine/Construct.lean ====
section
/-! DEFINITION. Construction, the block's reset (`70_reset_and_hazards.md` R240), with its parameters. -/

namespace Sys2Proof.Machine

/-- The memory after construction: zero, then the image, then the reset vector, so that the vector wins over
an image that covers it (R240, `20_memory.md` R47). Unwrapped writes, no cycles (R42). -/
def constructedMemory (p : Config.Params) : Memory :=
  let m := Memory.bulkWrite [] p.loadAddr p.program
  Memory.bulkWrite m resetVector [lo p.entry, hi p.entry]

/-- The state after construction: PC from the reset vector, `SP_RESET`, everything else cleared (R240, R34). -/
def constructed (p : Config.Params) : State :=
  let m := constructedMemory p
  { pc := join (Memory.read m (resetVector + 1).toNat) (Memory.read m resetVector.toNat)
    ac := 0x00, x := 0x00, y := 0x00, sp := p.spReset, sr := Flags.cleared, cyc := 0, mem := m }

/-- Construct (R240). An image longer than the memory is refused (`93_implementation_defined.md` U10). -/
def construct (p : Config.Params) : Result :=
  if p.wf then .next (constructed p) else .refused .programTooLong

end Sys2Proof.Machine
end

