-- ==== Sys2Proof/Machine/Loop.lean ====
section
/-! DEFINITION. The execution loop (`40_execution_loop.md` R80 to R87): the run condition, the termination
policy, the run under fuel, and what the host observes at the end. The policy HALT is an argument, as R6 and
R21 have it. -/

namespace Sys2Proof.Machine

/-- The condition of the loop (R80). -/
inductive Condition where
  | running
  | halted
  | faulted (opcode : Byte) (pc : Word)
  deriving DecidableEq, Repr

/-- A machine with its run condition: what R34 tabulates after construction. -/
structure Session where
  st   : State
  cond : Condition
  deriving DecidableEq, Repr

/-- The session after construction: `Running` (R80, R240). -/
def Session.start (p : Config.Params) : Session := { st := constructed p, cond := .running }

/-- HALT_default, the byte-length budget: PC lies outside the image (R84, D6). -/
def haltDefault (loadAddr : Word) (progLen : Nat) (s : State) : Bool := decide (progLen ≤ (s.pc - loadAddr).toNat)

/-- One turn of the loop (R85): HALT is tested before every opcode fetch; a fault leaves R222's state, PC past
the opcode and one cycle charged; Halted and Faulted are terminal (R80). A step never refuses (R83), so that
arm is never taken. -/
def loopTurn (halt : State → Bool) (m : Session) : Session :=
  match m.cond with
  | .running =>
    if halt m.st then { m with cond := .halted }
    else
      match step m.st with
      | .next s => { m with st := s }
      | .fault (.programmingFault _ op a) => { st := m.st.afterOpcodeFetch, cond := .faulted op a }
      | .refused _ => m
  | .halted => m
  | .faulted _ _ => m

/-- Run (R85) under fuel: at most so many turns. -/
def runLoop (halt : State → Bool) : Nat → Session → Session
  | 0, m => m
  | fuel + 1, m => runLoop halt fuel (loopTurn halt m)

/-- What the host observes when the run is over (R86). Memory is not part of it. -/
inductive Observation where
  | snapshot (pc : Word) (ac x y sp sr : Byte) (cyc : Nat)
  | fault (opcode : Byte) (pc : Word)
  deriving DecidableEq, Repr

/-- The observation (R86): nothing while the run goes on, the register snapshot and the cycle count when it
has halted, the opcode and its address when it has faulted. -/
def observe (m : Session) : Option Observation :=
  match m.cond with
  | .running => none
  | .halted => some (.snapshot m.st.pc m.st.ac m.st.x m.st.y m.st.sp m.st.sr.flatten m.st.cyc)
  | .faulted op a => some (.fault op a)

end Sys2Proof.Machine
end

