-- ==== Sys2Proof/Safety.lean ====
section
/-! DEFINITION. What a safe run is, in the terms claims use: the invariant every step keeps, and runs without a
ProgrammingFault ("Every claim about a run takes 'no ProgrammingFault' as a premise or proves it",
`60_exceptions.md` R222). -/

namespace Sys2Proof.Machine

/-- The invariant: the memory list is in canonical form (`10_state.md` R32). Every other field holds a legal
value by its type (R22 to R25, R31). -/
def State.inv (s : State) : Bool := Memory.wf s.mem

/-- The opcode at PC has a table entry, so that the next step does not fault (R220). -/
def State.canStep (s : State) : Bool := (tableEntry s.opcodeAt).isSome

/-- The run is not over by a fault (R80). -/
def Session.safe (m : Session) : Bool :=
  match m.cond with
  | .running | .halted => true
  | .faulted _ _ => false

/-- A run that does not fault within so many turns of the loop. -/
def safeFor (halt : State → Bool) (fuel : Nat) (m : Session) : Bool := (runLoop halt fuel m).safe

end Sys2Proof.Machine
end

