-- ==== Sys2Proof/Certificates/Slice0/Obligations.lean ====
section
/-! DEFINITION. The statements for the provers. First the spec's own tables and formulas, written again from its
text in plain arithmetic (namespace Sys2Proof.Spec), then one `Obligations.<Name>` each. `exec` is entered after
the opcode fetch, so in a statement about `exec i s` the PC of `s` is the address of the opcode plus 1, and the
cycles `exec` charges are the rule's total less the opcode fetch's 1 (R11, R81). Operand bytes are those the
decoder read (log 4); `StepRunsTheDecodedInstruction` ties both to a step. -/

namespace Sys2Proof.Spec

open Sys2Proof.Machine

/-- The byte at an address, as the model reads one byte. -/
def cell (s : State) (a : Nat) : Byte := Memory.read s.mem a

/-- Two cells as a 16-bit number, the low byte in the first (R43). -/
def word16 (s : State) (lowCell highCell : Nat) : Nat := 256 * (cell s highCell).toNat + (cell s lowCell).toNat

/-- The effective address of each mode in plain arithmetic (R101 to R111). -/
def address : Operand → State → Word
  | .imm _, s => s.pc
  | .zp b, _ => BitVec.ofNat 16 b.toNat
  | .zpx b, s => BitVec.ofNat 16 ((b.toNat + s.x.toNat) % 256)
  | .zpy b, s => BitVec.ofNat 16 ((b.toNat + s.y.toNat) % 256)
  | .abs a, _ => a
  | .abx a, s => BitVec.ofNat 16 ((a.toNat + s.x.toNat) % 65536)
  | .aby a, s => BitVec.ofNat 16 ((a.toNat + s.y.toNat) % 65536)
  | .ind p, s => BitVec.ofNat 16 (word16 s p.toNat (p.toNat / 256 * 256 + (p.toNat % 256 + 1) % 256))
  | .izx b, s => BitVec.ofNat 16 (word16 s ((b.toNat + s.x.toNat) % 256) ((b.toNat + s.x.toNat + 1) % 256))
  | .izy b, s => BitVec.ofNat 16 ((word16 s b.toNat ((b.toNat + 1) % 256) + s.y.toNat) % 65536)

/-- The base an index is added to, in the modes that charge for a page crossing (R106, R110, R111). -/
def base : Operand → State → Nat
  | .abx a, _ | .aby a, _ => a.toNat
  | .izy b, s => word16 s b.toNat ((b.toNat + 1) % 256)
  | o, s => (address o s).toNat

/-- "crossing a page means the high byte changes" (R12, R107). -/
def crosses (o : Operand) (s : State) : Bool := decide ((address o s).toNat / 256 ≠ base o s / 256)

/-- Operand bytes of each mode (R115). -/
def operandBytes : Operand → Nat
  | .imm _ | .zp _ | .zpx _ | .zpy _ | .izx _ | .izy _ => 1
  | .abs _ | .abx _ | .aby _ | .ind _ => 2

/-- The index charge: one cycle if the instruction writes or the page is crossed (R107). -/
def charge (w : Bool) (o : Operand) (s : State) : Nat := if w || crosses o s then 1 else 0

/-- The resolver cycles of the table of R115. -/
def resolverCycles (w : Bool) (o : Operand) (s : State) : Nat :=
  match o with
  | .imm _ => 0
  | .zp _ => 1
  | .zpx _ | .zpy _ => 2
  | .abs _ => 2
  | .abx _ | .aby _ => 2 + charge w o s
  | .ind _ => 4
  | .izx _ => 4
  | .izy _ => 3 + charge w o s

/-- The cycle totals of the instructions that read their operand (R120, R121, R122, R140, R150). -/
def readTotal (o : Operand) (s : State) : Nat :=
  match o with
  | .imm _ => 2
  | .zp _ => 3
  | .zpx _ | .zpy _ => 4
  | .abs _ => 4
  | .abx _ | .aby _ => if crosses o s then 5 else 4
  | .ind _ => 6
  | .izx _ => 6
  | .izy _ => if crosses o s then 6 else 5

/-- The cycle totals of the stores (R123, R124, R125); no store has IMM or IND. -/
def storeTotal : Operand → Nat
  | .imm _ => 2
  | .zp _ => 3
  | .zpx _ | .zpy _ => 4
  | .abs _ => 4
  | .abx _ | .aby _ => 5
  | .ind _ => 6
  | .izx _ | .izy _ => 6

/-- The cycle totals of the read-modify-write instructions on memory (R160); they have ZP, ZPX, ABS, ABX. -/
def rmwTotal : Operand → Nat
  | .zp _ => 5
  | .abx _ => 7
  | _ => 6

/-- The operand byte: the immediate byte itself, or the cell at the effective address. -/
def operandByte (o : Operand) (s : State) : Byte :=
  match o with
  | .imm v => v
  | _ => cell s (address o s).toNat

/-- PC past so many operand bytes, and so many cycles charged; everything else as it was. -/
def advance (s : State) (bytes cycles : Nat) : State :=
  { s with pc := s.pc + BitVec.ofNat 16 bytes, cyc := s.cyc + cycles }

/-- After an instruction that reads its operand: PC past the operand, its total less the opcode fetch charged. -/
def afterRead (o : Operand) (s : State) : State := advance s (operandBytes o) (readTotal o s - 1)

/-- N is bit 7 of the result, Z says it is zero (R10, R25). -/
def withNZ (f : Flags) (v : Byte) : Flags := { f with n := decide (128 ≤ v.toNat), z := decide (v.toNat = 0) }

/-- A compare's flags: C is the unsigned comparison, N and Z are of the 8-bit difference (R142). -/
def compared (f : Flags) (r m : Byte) : Flags :=
  { withNZ f (BitVec.ofNat 8 ((r.toNat + 256 - m.toNat) % 256)) with c := decide (m.toNat ≤ r.toNat) }

/-- AC, X, Y and SP are the same. -/
def sameRegisters (s t : State) : Prop := t.ac = s.ac ∧ t.x = s.x ∧ t.y = s.y ∧ t.sp = s.sp

/-- Every byte of memory reads the same. -/
def sameMemory (s t : State) : Prop := ∀ n, cell t n = cell s n

/-- One byte of memory is `v`, every other reads as before. -/
def wroteOne (s t : State) (a : Nat) (v : Byte) : Prop := cell t a = v ∧ ∀ n, n ≠ a → cell t n = cell s n

/-- The same bytes in the stack page, 0x0100 to 0x01FF. -/
def sameStackPage (s t : State) : Prop := ∀ n, 256 ≤ n → n < 512 → cell t n = cell s n

/-- The cell of a stack pointer, in page 1 (R23). -/
def stackCell (sp : Byte) : Nat := 256 + sp.toNat

/-- One bus access at an address: a read, or a write of a byte (R41). -/
def access (s : State) : Word × Option Byte → State
  | (a, none) => (s.memRead a).2
  | (a, some v) => s.memWrite a v

/-- The byte of the last write to `b` in a sequence of accesses; none where nothing writes it. -/
def latestWrite (b : Word) : List (Word × Option Byte) → Option Byte
  | [] => none
  | (a, v) :: rest =>
    match latestWrite b rest with
    | some later => some later
    | none => if a = b then v else none

/-- An instruction with an operand form, beside the opcode the spec gives it. -/
structure Row where
  opcode  : Byte
  instr   : Instr
  operand : Operand
  deriving DecidableEq, Repr

/-- The modes and opcodes of LDA with an effective address (R120). -/
def ldaRows (b : Byte) (a : Word) : List Row :=
  [⟨0xA9, .ldaImm b, .imm b⟩, ⟨0xA5, .ldaZp b, .zp b⟩, ⟨0xB5, .ldaZpx b, .zpx b⟩, ⟨0xAD, .ldaAbs a, .abs a⟩,
   ⟨0xBD, .ldaAbx a, .abx a⟩, ⟨0xB9, .ldaAby a, .aby a⟩, ⟨0xA1, .ldaIzx b, .izx b⟩, ⟨0xB1, .ldaIzy b, .izy b⟩]

/-- The modes and opcodes of LDX with an effective address (R121). -/
def ldxRows (b : Byte) (a : Word) : List Row :=
  [⟨0xA2, .ldxImm b, .imm b⟩, ⟨0xA6, .ldxZp b, .zp b⟩, ⟨0xB6, .ldxZpy b, .zpy b⟩, ⟨0xAE, .ldxAbs a, .abs a⟩,
   ⟨0xBE, .ldxAby a, .aby a⟩]

/-- The modes and opcodes of LDY with an effective address (R122). -/
def ldyRows (b : Byte) (a : Word) : List Row :=
  [⟨0xA0, .ldyImm b, .imm b⟩, ⟨0xA4, .ldyZp b, .zp b⟩, ⟨0xB4, .ldyZpx b, .zpx b⟩, ⟨0xAC, .ldyAbs a, .abs a⟩,
   ⟨0xBC, .ldyAbx a, .abx a⟩]

/-- The modes and opcodes of STA with an effective address (R123). -/
def staRows (b : Byte) (a : Word) : List Row :=
  [⟨0x85, .staZp b, .zp b⟩, ⟨0x95, .staZpx b, .zpx b⟩, ⟨0x8D, .staAbs a, .abs a⟩, ⟨0x9D, .staAbx a, .abx a⟩,
   ⟨0x99, .staAby a, .aby a⟩, ⟨0x81, .staIzx b, .izx b⟩, ⟨0x91, .staIzy b, .izy b⟩]

/-- The modes and opcodes of STX with an effective address (R124). -/
def stxRows (b : Byte) (a : Word) : List Row :=
  [⟨0x86, .stxZp b, .zp b⟩, ⟨0x96, .stxZpy b, .zpy b⟩, ⟨0x8E, .stxAbs a, .abs a⟩]

/-- The modes and opcodes of STY with an effective address (R125). -/
def styRows (b : Byte) (a : Word) : List Row :=
  [⟨0x84, .styZp b, .zp b⟩, ⟨0x94, .styZpx b, .zpx b⟩, ⟨0x8C, .styAbs a, .abs a⟩]

/-- The modes and opcodes of ADC with an effective address (R140). -/
def adcRows (b : Byte) (a : Word) : List Row :=
  [⟨0x69, .adcImm b, .imm b⟩, ⟨0x65, .adcZp b, .zp b⟩, ⟨0x75, .adcZpx b, .zpx b⟩, ⟨0x6D, .adcAbs a, .abs a⟩,
   ⟨0x7D, .adcAbx a, .abx a⟩, ⟨0x79, .adcAby a, .aby a⟩, ⟨0x61, .adcIzx b, .izx b⟩, ⟨0x71, .adcIzy b, .izy b⟩]

/-- The modes and opcodes of SBC with an effective address (R141). -/
def sbcRows (b : Byte) (a : Word) : List Row :=
  [⟨0xE9, .sbcImm b, .imm b⟩, ⟨0xE5, .sbcZp b, .zp b⟩, ⟨0xF5, .sbcZpx b, .zpx b⟩, ⟨0xED, .sbcAbs a, .abs a⟩,
   ⟨0xFD, .sbcAbx a, .abx a⟩, ⟨0xF9, .sbcAby a, .aby a⟩, ⟨0xE1, .sbcIzx b, .izx b⟩, ⟨0xF1, .sbcIzy b, .izy b⟩]

/-- The modes and opcodes of CMP with an effective address (R142). -/
def cmpRows (b : Byte) (a : Word) : List Row :=
  [⟨0xC9, .cmpImm b, .imm b⟩, ⟨0xC5, .cmpZp b, .zp b⟩, ⟨0xD5, .cmpZpx b, .zpx b⟩, ⟨0xCD, .cmpAbs a, .abs a⟩,
   ⟨0xDD, .cmpAbx a, .abx a⟩, ⟨0xD9, .cmpAby a, .aby a⟩, ⟨0xC1, .cmpIzx b, .izx b⟩, ⟨0xD1, .cmpIzy b, .izy b⟩]

/-- The modes and opcodes of CPX with an effective address (R143). -/
def cpxRows (b : Byte) (a : Word) : List Row :=
  [⟨0xE0, .cpxImm b, .imm b⟩, ⟨0xE4, .cpxZp b, .zp b⟩, ⟨0xEC, .cpxAbs a, .abs a⟩]

/-- The modes and opcodes of CPY with an effective address (R144). -/
def cpyRows (b : Byte) (a : Word) : List Row :=
  [⟨0xC0, .cpyImm b, .imm b⟩, ⟨0xC4, .cpyZp b, .zp b⟩, ⟨0xCC, .cpyAbs a, .abs a⟩]

/-- The modes and opcodes of AND with an effective address (R150). -/
def andRows (b : Byte) (a : Word) : List Row :=
  [⟨0x29, .andImm b, .imm b⟩, ⟨0x25, .andZp b, .zp b⟩, ⟨0x35, .andZpx b, .zpx b⟩, ⟨0x2D, .andAbs a, .abs a⟩,
   ⟨0x3D, .andAbx a, .abx a⟩, ⟨0x39, .andAby a, .aby a⟩, ⟨0x21, .andIzx b, .izx b⟩, ⟨0x31, .andIzy b, .izy b⟩]

/-- The modes and opcodes of ORA with an effective address (R151). -/
def oraRows (b : Byte) (a : Word) : List Row :=
  [⟨0x09, .oraImm b, .imm b⟩, ⟨0x05, .oraZp b, .zp b⟩, ⟨0x15, .oraZpx b, .zpx b⟩, ⟨0x0D, .oraAbs a, .abs a⟩,
   ⟨0x1D, .oraAbx a, .abx a⟩, ⟨0x19, .oraAby a, .aby a⟩, ⟨0x01, .oraIzx b, .izx b⟩, ⟨0x11, .oraIzy b, .izy b⟩]

/-- The modes and opcodes of EOR with an effective address (R152). -/
def eorRows (b : Byte) (a : Word) : List Row :=
  [⟨0x49, .eorImm b, .imm b⟩, ⟨0x45, .eorZp b, .zp b⟩, ⟨0x55, .eorZpx b, .zpx b⟩, ⟨0x4D, .eorAbs a, .abs a⟩,
   ⟨0x5D, .eorAbx a, .abx a⟩, ⟨0x59, .eorAby a, .aby a⟩, ⟨0x41, .eorIzx b, .izx b⟩, ⟨0x51, .eorIzy b, .izy b⟩]

/-- The modes and opcodes of BIT with an effective address (R153). -/
def bitRows (b : Byte) (a : Word) : List Row :=
  [⟨0x24, .bitZp b, .zp b⟩, ⟨0x2C, .bitAbs a, .abs a⟩]

/-- The modes and opcodes of ASL with an effective address (R161). -/
def aslRows (b : Byte) (a : Word) : List Row :=
  [⟨0x06, .aslZp b, .zp b⟩, ⟨0x16, .aslZpx b, .zpx b⟩, ⟨0x0E, .aslAbs a, .abs a⟩, ⟨0x1E, .aslAbx a, .abx a⟩]

/-- The modes and opcodes of LSR with an effective address (R162). -/
def lsrRows (b : Byte) (a : Word) : List Row :=
  [⟨0x46, .lsrZp b, .zp b⟩, ⟨0x56, .lsrZpx b, .zpx b⟩, ⟨0x4E, .lsrAbs a, .abs a⟩, ⟨0x5E, .lsrAbx a, .abx a⟩]

/-- The modes and opcodes of ROL with an effective address (R163). -/
def rolRows (b : Byte) (a : Word) : List Row :=
  [⟨0x26, .rolZp b, .zp b⟩, ⟨0x36, .rolZpx b, .zpx b⟩, ⟨0x2E, .rolAbs a, .abs a⟩, ⟨0x3E, .rolAbx a, .abx a⟩]

/-- The modes and opcodes of ROR with an effective address (R164). -/
def rorRows (b : Byte) (a : Word) : List Row :=
  [⟨0x66, .rorZp b, .zp b⟩, ⟨0x76, .rorZpx b, .zpx b⟩, ⟨0x6E, .rorAbs a, .abs a⟩, ⟨0x7E, .rorAbx a, .abx a⟩]

/-- The modes and opcodes of INC with an effective address (R165). -/
def incRows (b : Byte) (a : Word) : List Row :=
  [⟨0xE6, .incZp b, .zp b⟩, ⟨0xF6, .incZpx b, .zpx b⟩, ⟨0xEE, .incAbs a, .abs a⟩, ⟨0xFE, .incAbx a, .abx a⟩]

/-- The modes and opcodes of DEC with an effective address (R166). -/
def decRows (b : Byte) (a : Word) : List Row :=
  [⟨0xC6, .decZp b, .zp b⟩, ⟨0xD6, .decZpx b, .zpx b⟩, ⟨0xCE, .decAbs a, .abs a⟩, ⟨0xDE, .decAbx a, .abx a⟩]

/-- The opcode byte of an instruction as the encoder writes it. -/
def opcodeOf (i : Instr) : Option Byte := (encode i).head?

/-- The opcode map by instruction and mode: the cells of R63. -/
def opcodeCells : Mnemonic → List (Mode × Byte)
  | .lda => [(.imm, 0xA9), (.zp, 0xA5), (.zpx, 0xB5), (.abs, 0xAD), (.abx, 0xBD), (.aby, 0xB9), (.izx, 0xA1),
    (.izy, 0xB1)]
  | .ldx => [(.imm, 0xA2), (.zp, 0xA6), (.zpy, 0xB6), (.abs, 0xAE), (.aby, 0xBE)]
  | .ldy => [(.imm, 0xA0), (.zp, 0xA4), (.zpx, 0xB4), (.abs, 0xAC), (.abx, 0xBC)]
  | .sta => [(.zp, 0x85), (.zpx, 0x95), (.abs, 0x8D), (.abx, 0x9D), (.aby, 0x99), (.izx, 0x81), (.izy, 0x91)]
  | .stx => [(.zp, 0x86), (.zpy, 0x96), (.abs, 0x8E)]
  | .sty => [(.zp, 0x84), (.zpx, 0x94), (.abs, 0x8C)]
  | .tax => [(.imp, 0xAA)]
  | .tay => [(.imp, 0xA8)]
  | .txa => [(.imp, 0x8A)]
  | .tya => [(.imp, 0x98)]
  | .tsx => [(.imp, 0xBA)]
  | .txs => [(.imp, 0x9A)]
  | .adc => [(.imm, 0x69), (.zp, 0x65), (.zpx, 0x75), (.abs, 0x6D), (.abx, 0x7D), (.aby, 0x79), (.izx, 0x61),
    (.izy, 0x71)]
  | .sbc => [(.imm, 0xE9), (.zp, 0xE5), (.zpx, 0xF5), (.abs, 0xED), (.abx, 0xFD), (.aby, 0xF9), (.izx, 0xE1),
    (.izy, 0xF1)]
  | .cmp => [(.imm, 0xC9), (.zp, 0xC5), (.zpx, 0xD5), (.abs, 0xCD), (.abx, 0xDD), (.aby, 0xD9), (.izx, 0xC1),
    (.izy, 0xD1)]
  | .cpx => [(.imm, 0xE0), (.zp, 0xE4), (.abs, 0xEC)]
  | .cpy => [(.imm, 0xC0), (.zp, 0xC4), (.abs, 0xCC)]
  | .and => [(.imm, 0x29), (.zp, 0x25), (.zpx, 0x35), (.abs, 0x2D), (.abx, 0x3D), (.aby, 0x39), (.izx, 0x21),
    (.izy, 0x31)]
  | .ora => [(.imm, 0x09), (.zp, 0x05), (.zpx, 0x15), (.abs, 0x0D), (.abx, 0x1D), (.aby, 0x19), (.izx, 0x01),
    (.izy, 0x11)]
  | .eor => [(.imm, 0x49), (.zp, 0x45), (.zpx, 0x55), (.abs, 0x4D), (.abx, 0x5D), (.aby, 0x59), (.izx, 0x41),
    (.izy, 0x51)]
  | .bit => [(.zp, 0x24), (.abs, 0x2C)]
  | .asl => [(.acc, 0x0A), (.zp, 0x06), (.zpx, 0x16), (.abs, 0x0E), (.abx, 0x1E)]
  | .lsr => [(.acc, 0x4A), (.zp, 0x46), (.zpx, 0x56), (.abs, 0x4E), (.abx, 0x5E)]
  | .rol => [(.acc, 0x2A), (.zp, 0x26), (.zpx, 0x36), (.abs, 0x2E), (.abx, 0x3E)]
  | .ror => [(.acc, 0x6A), (.zp, 0x66), (.zpx, 0x76), (.abs, 0x6E), (.abx, 0x7E)]
  | .inc => [(.zp, 0xE6), (.zpx, 0xF6), (.abs, 0xEE), (.abx, 0xFE)]
  | .dec => [(.zp, 0xC6), (.zpx, 0xD6), (.abs, 0xCE), (.abx, 0xDE)]
  | .inx => [(.imp, 0xE8)]
  | .iny => [(.imp, 0xC8)]
  | .dex => [(.imp, 0xCA)]
  | .dey => [(.imp, 0x88)]
  | .clc => [(.imp, 0x18)]
  | .cld => [(.imp, 0xD8)]
  | .cli => [(.imp, 0x58)]
  | .clv => [(.imp, 0xB8)]
  | .sec => [(.imp, 0x38)]
  | .sed => [(.imp, 0xF8)]
  | .sei => [(.imp, 0x78)]
  | .nop => [(.imp, 0xEA)]
  | .jmp => [(.abs, 0x4C), (.ind, 0x6C)]
  | .jsr => [(.abs, 0x20)]
  | .rts => [(.imp, 0x60)]
  | .bcc => [(.rel, 0x90)]
  | .bcs => [(.rel, 0xB0)]
  | .beq => [(.rel, 0xF0)]
  | .bmi => [(.rel, 0x30)]
  | .bne => [(.rel, 0xD0)]
  | .bpl => [(.rel, 0x10)]
  | .bvc => [(.rel, 0x50)]
  | .bvs => [(.rel, 0x70)]
  | .pha => [(.imp, 0x48)]
  | .php => [(.imp, 0x08)]
  | .pla => [(.imp, 0x68)]
  | .plp => [(.imp, 0x28)]
  | .brk => [(.imp, 0x00)]
  | .rti => [(.imp, 0x40)]

/-- The 105 opcode byte values with no entry (R65). -/
def illegalOpcodes : List Byte :=
  [0x02, 0x03, 0x04, 0x07, 0x0B, 0x0C, 0x0F, 0x12, 0x13, 0x14, 0x17, 0x1A, 0x1B, 0x1C, 0x1F, 0x22, 0x23, 0x27, 0x2B, 0x2F, 0x32] ++
  [0x33, 0x34, 0x37, 0x3A, 0x3B, 0x3C, 0x3F, 0x42, 0x43, 0x44, 0x47, 0x4B, 0x4F, 0x52, 0x53, 0x54, 0x57, 0x5A, 0x5B, 0x5C, 0x5F] ++
  [0x62, 0x63, 0x64, 0x67, 0x6B, 0x6F, 0x72, 0x73, 0x74, 0x77, 0x7A, 0x7B, 0x7C, 0x7F, 0x80, 0x82, 0x83, 0x87, 0x89, 0x8B, 0x8F] ++
  [0x92, 0x93, 0x97, 0x9B, 0x9C, 0x9E, 0x9F, 0xA3, 0xA7, 0xAB, 0xAF, 0xB2, 0xB3, 0xB7, 0xBB, 0xBF, 0xC2, 0xC3, 0xC7, 0xCB, 0xCF] ++
  [0xD2, 0xD3, 0xD4, 0xD7, 0xDA, 0xDB, 0xDC, 0xDF, 0xE2, 0xE3, 0xE7, 0xEB, 0xEF, 0xF2, 0xF3, 0xF4, 0xF7, 0xFA, 0xFB, 0xFC, 0xFF]

/-- The cycle table of R244: a total for each mnemonic and mode; `true` where it says `n+`, one more when the
indexed address crosses a page. A branch's cell is its total when not taken. -/
def cycleCells : Mnemonic → List (Mode × Nat × Bool)
  | .lda | .adc | .sbc | .cmp | .and | .ora | .eor => [(.imm, 2, false), (.zp, 3, false), (.zpx, 4, false),
    (.abs, 4, false), (.abx, 4, true), (.aby, 4, true), (.izx, 6, false), (.izy, 5, true)]
  | .ldx => [(.imm, 2, false), (.zp, 3, false), (.zpy, 4, false), (.abs, 4, false), (.aby, 4, true)]
  | .ldy => [(.imm, 2, false), (.zp, 3, false), (.zpx, 4, false), (.abs, 4, false), (.abx, 4, true)]
  | .sta => [(.zp, 3, false), (.zpx, 4, false), (.abs, 4, false), (.abx, 5, false), (.aby, 5, false),
    (.izx, 6, false), (.izy, 6, false)]
  | .stx => [(.zp, 3, false), (.zpy, 4, false), (.abs, 4, false)]
  | .sty => [(.zp, 3, false), (.zpx, 4, false), (.abs, 4, false)]
  | .tax | .tay | .txa | .tya | .tsx | .txs | .inx | .iny | .dex | .dey | .clc | .cld | .cli | .clv | .sec | .sed | .sei | .nop => [
    (.imp, 2, false)]
  | .cpx | .cpy => [(.imm, 2, false), (.zp, 3, false), (.abs, 4, false)]
  | .bit => [(.zp, 3, false), (.abs, 4, false)]
  | .asl | .lsr | .rol | .ror => [(.acc, 2, false), (.zp, 5, false), (.zpx, 6, false), (.abs, 6, false),
    (.abx, 7, false)]
  | .inc | .dec => [(.zp, 5, false), (.zpx, 6, false), (.abs, 6, false), (.abx, 7, false)]
  | .jmp => [(.abs, 3, false), (.ind, 5, false)]
  | .jsr => [(.abs, 6, false)]
  | .rts | .rti => [(.imp, 6, false)]
  | .bcc | .bcs | .beq | .bmi | .bne | .bpl | .bvc | .bvs => [(.rel, 2, false)]
  | .pha | .php => [(.imp, 3, false)]
  | .pla | .plp => [(.imp, 4, false)]
  | .brk => [(.imp, 7, false)]

/-- The flag and polarity each branch tests (R193). -/
def branchTaken (m : Mnemonic) (f : Flags) : Bool :=
  match m with
  | .bcc => !f.c
  | .bcs => f.c
  | .beq => f.z
  | .bmi => f.n
  | .bne => !f.z
  | .bpl => !f.n
  | .bvc => !f.v
  | .bvs => f.v
  | _ => false

/-- A branch's target from the address after the operand: the displacement is signed (R62, R112). -/
def branchTarget (s : State) (d : Byte) : Word := s.pc + 1 + BitVec.ofInt 16 d.toInt

/-- Cycles a taken branch costs beyond its 2: one, and one more when the page of the target is not that of the
next instruction (R112). -/
def takenCycles (s : State) (d : Byte) : Nat :=
  if (branchTarget s d).toNat / 256 = (s.pc + 1).toNat / 256 then 1 else 2

/-- A branch, taken or not (R112, R193). -/
def branched (taken : Bool) (d : Byte) (s : State) : State :=
  if taken then { s with pc := branchTarget s d, cyc := s.cyc + 1 + takenCycles s d } else advance s 1 1

/-- The displacement byte of a branch. -/
def displacement : Instr → Byte
  | .bcc d | .bcs d | .beq d | .bmi d | .bne d | .bpl d | .bvc d | .bvs d => d
  | _ => 0

/-- The cycle total of an instruction, from R244's table: its cell, one more where the cell has a plus and the
page is crossed, and a taken branch's extra. `s` is the state after the opcode fetch. -/
def cycleTotal (i : Instr) (s : State) : Nat :=
  match (cycleCells i.mnemonic).lookup i.mode with
  | none => 0
  | some (n, plus) =>
    n + (match operandOf i with
         | some o => if plus && crosses o s then 1 else 0
         | none => 0)
      + (if branchTaken i.mnemonic s.sr then takenCycles s (displacement i) else 0)

/-- The writers of N, and of Z, in R29's matrix. -/
def nzWriters : List Mnemonic :=
  [.lda, .ldx, .ldy, .tax, .tay, .txa, .tya, .tsx, .pla, .inx, .iny, .dex, .dey, .inc, .dec, .adc, .sbc, .and, .ora,
   .eor, .asl, .lsr, .rol, .ror, .cmp, .cpx, .cpy, .bit, .plp, .rti]
/-- The writers of V (R29). -/
def vWriters : List Mnemonic := [.adc, .sbc, .bit, .clv, .plp, .rti]
/-- The writers of B (R29). -/
def bWriters : List Mnemonic := [.brk, .plp, .rti]
/-- The writers of D (R29). -/
def dWriters : List Mnemonic := [.sed, .cld, .plp, .rti]
/-- The writers of I (R29). -/
def iWriters : List Mnemonic := [.sei, .cli, .plp, .rti]
/-- The writers of C (R29). -/
def cWriters : List Mnemonic := [.adc, .sbc, .cmp, .cpx, .cpy, .asl, .lsr, .rol, .ror, .sec, .clc, .plp, .rti]
/-- The writers of AC (R22); the shifts and rotates only in accumulator mode. -/
def writesAc (i : Instr) : Bool :=
  [.lda, .txa, .tya, .pla, .adc, .sbc, .and, .ora, .eor].contains i.mnemonic ||
    ([.asl, .lsr, .rol, .ror].contains i.mnemonic && i.mode == .acc)
/-- The writers of X (R22). -/
def xWriters : List Mnemonic := [.ldx, .tax, .tsx, .inx, .dex]
/-- The writers of Y (R22). -/
def yWriters : List Mnemonic := [.ldy, .tay, .iny, .dey]
/-- The writers of SP (R23). -/
def spWriters : List Mnemonic := [.pha, .php, .pla, .plp, .jsr, .rts, .brk, .rti, .txs]
/-- The instructions that write memory: the stores, the read-modify-write forms, and those that push. -/
def writesMemory (i : Instr) : Bool :=
  [.sta, .stx, .sty, .inc, .dec, .pha, .php, .jsr, .brk].contains i.mnemonic ||
    ([.asl, .lsr, .rol, .ror].contains i.mnemonic && i.mode != .acc)

/-- A state with B, D and I cleared: two states alike but for those three flags have the same. -/
def blind (s : State) : State := { s with sr := { s.sr with b := false, d := false, i := false } }

end Sys2Proof.Spec

open Sys2Proof Sys2Proof.Machine Sys2Proof.Spec

/-- Decoding the encoding of any instruction gives it back. For every instruction, every operand value and every
continuation (R60, R62, R63). The spec's own choices here are D1, D2 (log 6). -/
def Obligations.DecodeEncodeRoundTrip : Prop :=
  ∀ (i : Instr) (rest : List Byte), decode (encode i ++ rest) = .ok (i, rest)

/-- What is decoded is the encoding of the instruction it gave. The other direction: each instruction has one encoding
(R60, R62, R63). The spec's own choices here are D1, D2 (log 6). -/
def Obligations.EncodeDecodeRoundTrip : Prop :=
  ∀ (bytes rest : List Byte) (i : Instr), decode bytes = .ok (i, rest) → bytes = encode i ++ rest

/-- The opcodes are the cells of the opcode map, and every cell is an instruction. The cells of R63, both ways. The
spec's own choices here are D1, D2 (log 6). -/
def Obligations.OpcodeMapIsTheTable : Prop :=
  (∀ i : Instr, opcodeOf i = (opcodeCells i.mnemonic).lookup i.mode) ∧
  (∀ (m : Mnemonic) (mode : Mode) (op : Byte), (mode, op) ∈ opcodeCells m →
    ∃ i : Instr, i.mnemonic = m ∧ i.mode = mode ∧ opcodeOf i = some op)

/-- The decoder rejects exactly the 105 byte values of the list, by name. The list of R65, both ways; no operand byte
value is illegal (R66). The spec's own choices here are D1, D2 (log 6). -/
def Obligations.IllegalOpcodesAreRejected : Prop :=
  (∀ (op : Byte) (rest : List Byte), op ∈ illegalOpcodes → decode (op :: rest) = .error (.noEntry op)) ∧
  (∀ (op x y : Byte), op ∉ illegalOpcodes → ∃ i rest, decode [op, x, y] = .ok (i, rest))

/-- Words written out from the encoding tables decode to their instructions. Words of R67 and R64, one at least of
each family. The spec's own choices here are D2, D21 (log 6). -/
def Obligations.SpecWordsDecode : Prop :=
  decode [0xAD, 0x00, 0x02] = .ok (.ldaAbs 0x0200, []) ∧
  decode [0x99, 0x00, 0x03] = .ok (.staAby 0x0300, []) ∧
  decode [0x7D, 0xFF, 0x44] = .ok (.adcAbx 0x44FF, []) ∧
  decode [0xA1, 0x20] = .ok (.ldaIzx 0x20, []) ∧
  decode [0x49, 0xFF] = .ok (.eorImm 0xFF, []) ∧
  decode [0x0A] = .ok (.aslAcc, []) ∧
  decode [0x18] = .ok (.clc, []) ∧
  decode [0x6C, 0xFF, 0x02] = .ok (.jmpInd 0x02FF, []) ∧
  decode [0xD0, 0x10] = .ok (.bne 0x10, []) ∧
  decode [0x00] = .ok (.brk, [])

/-- A step executes the instruction decoded at PC, after the opcode fetch. R81: the opcode fetch adds 1 to PC and to
CYC, then the rule of the instruction runs. The spec marks it as derived from its other rules. -/
def Obligations.StepRunsTheDecodedInstruction : Prop :=
  ∀ (s : State) (i : Instr) (rest : List Byte),
    decode [cell s s.pc.toNat, cell s (s.pc + 1).toNat, cell s (s.pc + 2).toNat] = .ok (i, rest) →
    step s = exec i { s with pc := s.pc + 1, cyc := s.cyc + 1 }

/-- A step completes unless the opcode has no entry, and then it faults. R83: there is no stuck state. The list of the
105 bytes is R65's (log 6), and that the fault records the address PC the opcode was fetched from is D14's choice
(R220, log 15). The spec's own choices here are D1, D2, D14 (log 6, 15). -/
def Obligations.StepIsTotalAndFaultsOnlyOnIllegalOpcodes : Prop :=
  ∀ s : State,
    (cell s s.pc.toNat ∈ illegalOpcodes →
      step s = .fault (.programmingFault .noEntry (cell s s.pc.toNat) s.pc)) ∧
    (cell s s.pc.toNat ∉ illegalOpcodes → ∃ t, step s = .next t)

/-- No step is refused and none raises the second cause of ProgrammingFault. BadVariant cannot occur (R221) and there
is no other exception (R223). The spec's own choices here are D14 (log 15). -/
def Obligations.StepNeverRefusesNorBadVariant : Prop :=
  ∀ s : State, (∀ r, step s ≠ .refused r) ∧ (∀ op pc, step s ≠ .fault (.programmingFault .badVariant op pc))

/-- The table word stored for the next fetch is what the next step runs. Of the model's own withFetchWord (log 2),
over R81. -/
def Obligations.FetchWordRunsFirst : Prop :=
  ∀ (s : State) (nbits w : Nat) (i : Instr), decodeTableWord nbits w = some i →
    step (s.withFetchWord nbits w) = exec i (s.withFetchWord nbits w).afterOpcodeFetch ∧
    ∀ n, n ≠ s.pc.toNat → n ≠ (s.pc + 1).toNat → n ≠ (s.pc + 2).toNat →
      cell (s.withFetchWord nbits w) n = cell s n

/-- Every step keeps the memory in canonical form. The invariant of Safety.lean: the representation of R32's memory.
The canonical list is the model's own representation, a DESIGN CHOICE (log 17); R32 and R40 ask for the cells alone.
-/
def Obligations.StepKeepsTheInvariant : Prop :=
  ∀ s t : State, s.inv = true → step s = .next t → t.inv = true

/-- The reset state has the invariant and is the default construction. R240 with the defaults of R6 (log 1). The first
clause is of the model's own representation, a DESIGN CHOICE (log 17). The spec's own choices here are D3, D4, D5, D7
(log 1, 14). -/
def Obligations.ResetHasTheInvariant : Prop :=
  State.reset.inv = true ∧ construct { program := [] } = .next State.reset

/-- A step adds at least 2 and at most 7 to the cycle counter. "monotonically increasing cycle counter" (R31), with
the extremes of R244's table. The spec's own choices here are D7, D8, D9, D10, D18 (log 7, 14). -/
def Obligations.StepCostsTwoToSevenCycles : Prop :=
  ∀ s t : State, step s = .next t → s.cyc + 2 ≤ t.cyc ∧ t.cyc ≤ s.cyc + 7

/-- Every instruction costs what the cycle table says. The table of R244, all 151 rows; the opcode fetch is the 1 on
the left (R81). That a ProgrammingFault step charges 1 is FaultEndsTheRun. The spec's own choices here are D8, D9,
D10, D18, D24 (log 7, 13). -/
def Obligations.CycleTableHolds : Prop :=
  ∀ (i : Instr) (s : State), ∃ t, exec i s = .next t ∧ t.cyc + 1 = s.cyc + cycleTotal i s

/-- A flag changes only by an instruction the flag matrix lists as its writer. The writers of R29's matrix; every
other flag is left unchanged (R25). The spec's own choices here are D17 (log 12). -/
def Obligations.FlagsChangeOnlyByTheirWriters : Prop :=
  ∀ (i : Instr) (s : State), ∃ t, exec i s = .next t ∧
    (i.mnemonic ∉ nzWriters → t.sr.n = s.sr.n ∧ t.sr.z = s.sr.z) ∧
    (i.mnemonic ∉ vWriters → t.sr.v = s.sr.v) ∧
    (i.mnemonic ∉ bWriters → t.sr.b = s.sr.b) ∧
    (i.mnemonic ∉ dWriters → t.sr.d = s.sr.d) ∧
    (i.mnemonic ∉ iWriters → t.sr.i = s.sr.i) ∧
    (i.mnemonic ∉ cWriters → t.sr.c = s.sr.c)

/-- A register changes only by an instruction its row lists as a writer. The writers of R22 and R23. The spec's own
choices here are D3 (log 1). -/
def Obligations.RegistersChangeOnlyByTheirWriters : Prop :=
  ∀ (i : Instr) (s : State), ∃ t, exec i s = .next t ∧
    (writesAc i = false → t.ac = s.ac) ∧
    (i.mnemonic ∉ xWriters → t.x = s.x) ∧
    (i.mnemonic ∉ yWriters → t.y = s.y) ∧
    (i.mnemonic ∉ spWriters → t.sp = s.sp)

/-- An instruction that is no store, memory modify or push leaves all of memory. Frame: all of memory, for a form that
stores nothing. The spec's own choices here are D19 (log 13). -/
def Obligations.MemoryChangesOnlyByStores : Prop :=
  ∀ (i : Instr) (s : State), writesMemory i = false → ∃ t, exec i s = .next t ∧ sameMemory s t

/-- An instruction that is no control transfer leaves PC past its bytes. R24: `PC = (A + L) mod 65536`; `s.pc` is A +
1. The spec marks it as derived from its other rules. -/
def Obligations.PcPassesTheInstruction : Prop :=
  ∀ (i : Instr) (s : State), i.mnemonic ∉ [Mnemonic.jmp, .jsr, .rts, .rti, .brk] →
    branchTaken i.mnemonic s.sr = false →
    ∃ t, exec i s = .next t ∧ t.pc = s.pc + BitVec.ofNat 16 (i.mode.length - 1)

/-- But for PHP and BRK, no instruction's outcome depends on B, D or I. R28: D, I and B are read only by Flatten,
which only PHP and BRK use. Who writes them is said here too. The spec's own choices here are D12, D13, D15, D16 (log
9, 10, 11). -/
def Obligations.NothingReadsBreakDecimalInterrupt : Prop :=
  (∀ (i : Instr) (s u : State), i.mnemonic ∉ [Mnemonic.php, .brk] → blind s = blind u →
    ∃ t v, exec i s = .next t ∧ exec i u = .next v ∧ blind t = blind v) ∧
  (∀ (i : Instr) (s : State), ∃ t, exec i s = .next t ∧
    (i.mnemonic ∉ [Mnemonic.sed, .cld, .plp, .rti] → t.sr.d = s.sr.d) ∧
    (i.mnemonic ∉ [Mnemonic.sei, .cli, .plp, .rti] → t.sr.i = s.sr.i) ∧
    (i.mnemonic ∉ [Mnemonic.brk, .plp, .rti] → t.sr.b = s.sr.b) ∧
    (i.mnemonic = .brk → t.sr.b = true))

/-- Each resolver gives the address, PC and cycles its rule says and changes nothing else. R101 to R111 in plain
arithmetic, the cycles of R115, and R100's "address computation only". The spec's own choices here are D9, D10, D23,
D24 (log 4, 7, 13). -/
def Obligations.ResolversFollowTheirRules : Prop :=
  ∀ (w : Bool) (o : Operand) (s : State),
    resolve w o s = (address o s, advance s (operandBytes o) (resolverCycles w o s))

/-- LDA loads accumulator, sets N and Z, and changes nothing else. R120, every mode. The spec's own choices here are
D2, D9, D23, D24 (log 4, 6, 7, 13). -/
def Obligations.LdaLoadsItsRegister : Prop :=
  ∀ (b : Byte) (a : Word) (s : State), ∀ row ∈ ldaRows b a,
    opcodeOf row.instr = some row.opcode ∧
    exec row.instr s = .next { afterRead row.operand s with
      ac := operandByte row.operand s, sr := withNZ s.sr (operandByte row.operand s) }

/-- LDX loads X, sets N and Z, and changes nothing else. R121, every mode. The spec's own choices here are D1, D2,
D23, D24 (log 4, 6, 13). -/
def Obligations.LdxLoadsItsRegister : Prop :=
  ∀ (b : Byte) (a : Word) (s : State), ∀ row ∈ ldxRows b a,
    opcodeOf row.instr = some row.opcode ∧
    exec row.instr s = .next { afterRead row.operand s with
      x := operandByte row.operand s, sr := withNZ s.sr (operandByte row.operand s) }

/-- LDY loads Y, sets N and Z, and changes nothing else. R122, every mode. The spec's own choices here are D1, D2,
D23, D24 (log 4, 6, 13). -/
def Obligations.LdyLoadsItsRegister : Prop :=
  ∀ (b : Byte) (a : Word) (s : State), ∀ row ∈ ldyRows b a,
    opcodeOf row.instr = some row.opcode ∧
    exec row.instr s = .next { afterRead row.operand s with
      y := operandByte row.operand s, sr := withNZ s.sr (operandByte row.operand s) }

/-- STA, STX and STY write their register at the effective address and nothing else. R123, R124, R125, every mode. The
spec's own choices here are D1, D2, D9, D10, D24 (log 6, 7, 13). -/
def Obligations.StoresWriteOneByte : Prop :=
  ∀ (b : Byte) (a : Word) (s : State),
    (∀ row ∈ staRows b a, opcodeOf row.instr = some row.opcode ∧ ∃ t, exec row.instr s = .next t ∧
      wroteOne s t (resolve true row.operand s).1.toNat s.ac ∧ sameRegisters s t ∧ t.sr = s.sr ∧
      t.pc = s.pc + BitVec.ofNat 16 (operandBytes row.operand) ∧ t.cyc + 1 = s.cyc + storeTotal row.operand) ∧
    (∀ row ∈ stxRows b a, opcodeOf row.instr = some row.opcode ∧ ∃ t, exec row.instr s = .next t ∧
      wroteOne s t (resolve true row.operand s).1.toNat s.x ∧ sameRegisters s t ∧ t.sr = s.sr ∧
      t.pc = s.pc + BitVec.ofNat 16 (operandBytes row.operand) ∧ t.cyc + 1 = s.cyc + storeTotal row.operand) ∧
    (∀ row ∈ styRows b a, opcodeOf row.instr = some row.opcode ∧ ∃ t, exec row.instr s = .next t ∧
      wroteOne s t (resolve true row.operand s).1.toNat s.y ∧ sameRegisters s t ∧ t.sr = s.sr ∧
      t.pc = s.pc + BitVec.ofNat 16 (operandBytes row.operand) ∧ t.cyc + 1 = s.cyc + storeTotal row.operand)

/-- The six transfers copy one register; all but TXS set N and Z. R126 to R131. The spec's own choices here are D1,
D2, D9, D17 (log 6, 7, 12). -/
def Obligations.TransfersCopyARegister : Prop :=
  ∀ s : State,
    (opcodeOf .tax = some 0xAA ∧ exec .tax s = .next { advance s 0 1 with x := s.ac, sr := withNZ s.sr s.ac }) ∧
    (opcodeOf .tay = some 0xA8 ∧ exec .tay s = .next { advance s 0 1 with y := s.ac, sr := withNZ s.sr s.ac }) ∧
    (opcodeOf .txa = some 0x8A ∧ exec .txa s = .next { advance s 0 1 with ac := s.x, sr := withNZ s.sr s.x }) ∧
    (opcodeOf .tya = some 0x98 ∧ exec .tya s = .next { advance s 0 1 with ac := s.y, sr := withNZ s.sr s.y }) ∧
    (opcodeOf .tsx = some 0xBA ∧ exec .tsx s = .next { advance s 0 1 with x := s.sp, sr := withNZ s.sr s.sp }) ∧
    (opcodeOf .txs = some 0x9A ∧ exec .txs s = .next { advance s 0 1 with sp := s.x })

/-- ADC adds the operand and the carry: result, N, V, Z, C, nothing else. R140, every mode, with the sum as a natural
number. The spec's own choices here are D2, D9, D15, D23, D24 (log 4, 6, 7, 11, 13). -/
def Obligations.AdcAddsWithCarry : Prop :=
  ∀ (b : Byte) (a : Word) (s : State), ∀ row ∈ adcRows b a,
    let m := operandByte row.operand s
    let t := s.ac.toNat + m.toNat + s.sr.c.toNat
    let r : Byte := BitVec.ofNat 8 (t % 256)
    opcodeOf row.instr = some row.opcode ∧
    exec row.instr s = .next { afterRead row.operand s with
      ac := r
      sr := { withNZ s.sr r with
        c := decide (256 ≤ t)
        v := decide (s.ac.msb = m.msb ∧ r.msb ≠ s.ac.msb) } }

/-- SBC subtracts with C as no-borrow and forces C to 0 on overflow. R141, every mode, with the sum as a natural
number. The spec's own choices here are D2, D9, D11, D15, D23, D24 (log 4, 6, 7, 8, 11, 13). -/
def Obligations.SbcSubtractsWithBorrow : Prop :=
  ∀ (b : Byte) (a : Word) (s : State), ∀ row ∈ sbcRows b a,
    let m := operandByte row.operand s
    let t := s.ac.toNat + (255 - m.toNat) + s.sr.c.toNat
    let r : Byte := BitVec.ofNat 8 (t % 256)
    let v := decide (s.ac.msb ≠ m.msb ∧ r.msb ≠ s.ac.msb)
    opcodeOf row.instr = some row.opcode ∧
    exec row.instr s = .next { afterRead row.operand s with
      ac := r
      sr := { withNZ s.sr r with c := decide (256 ≤ t) && !v, v := v } }

/-- V after ADC and SBC says that the signed result does not fit a byte. What R140's and R141's sign rule means:
signed interpretation is two's complement (R145). The spec's own choices here are D11, D15, D23, D24 (log 4, 8, 11,
13). -/
def Obligations.OverflowIsOutOfSignedRange : Prop :=
  ∀ (b : Byte) (a : Word) (s : State),
    (∀ row ∈ adcRows b a, ∃ t, exec row.instr s = .next t ∧
      (t.sr.v = true ↔
        s.ac.toInt + (operandByte row.operand s).toInt + (s.sr.c.toNat : Int) < -128 ∨
        127 < s.ac.toInt + (operandByte row.operand s).toInt + (s.sr.c.toNat : Int))) ∧
    (∀ row ∈ sbcRows b a, ∃ t, exec row.instr s = .next t ∧
      (t.sr.v = true ↔
        s.ac.toInt - (operandByte row.operand s).toInt - (1 - (s.sr.c.toNat : Int)) < -128 ∨
        127 < s.ac.toInt - (operandByte row.operand s).toInt - (1 - (s.sr.c.toNat : Int))) ∧
      (t.sr.c = true ↔
        (operandByte row.operand s).toNat + 1 ≤ s.ac.toNat + s.sr.c.toNat ∧ t.sr.v = false))

/-- CMP, CPX and CPY set C by the unsigned comparison and N, Z by the difference. R142, R143, R144, every mode. The
spec's own choices here are D2, D9, D17, D23, D24 (log 4, 6, 7, 12, 13). -/
def Obligations.ComparesSetFlagsOnly : Prop :=
  ∀ (b : Byte) (a : Word) (s : State),
    (∀ row ∈ cmpRows b a, opcodeOf row.instr = some row.opcode ∧
      exec row.instr s = .next { afterRead row.operand s with sr := compared s.sr s.ac (operandByte row.operand s) }) ∧
    (∀ row ∈ cpxRows b a, opcodeOf row.instr = some row.opcode ∧
      exec row.instr s = .next { afterRead row.operand s with sr := compared s.sr s.x (operandByte row.operand s) }) ∧
    (∀ row ∈ cpyRows b a, opcodeOf row.instr = some row.opcode ∧
      exec row.instr s = .next { afterRead row.operand s with sr := compared s.sr s.y (operandByte row.operand s) })

/-- AND, ORA and EOR combine the operand with AC bit by bit and set N and Z. R150, R151, R152, every mode. The spec's
own choices here are D1, D2, D9, D17, D23, D24 (log 4, 6, 7, 12, 13). -/
def Obligations.LogicCombinesWithAccumulator : Prop :=
  ∀ (b : Byte) (a : Word) (s : State),
    (∀ row ∈ andRows b a, opcodeOf row.instr = some row.opcode ∧
      exec row.instr s = .next { afterRead row.operand s with
        ac := s.ac &&& operandByte row.operand s, sr := withNZ s.sr (s.ac &&& operandByte row.operand s) }) ∧
    (∀ row ∈ oraRows b a, opcodeOf row.instr = some row.opcode ∧
      exec row.instr s = .next { afterRead row.operand s with
        ac := s.ac ||| operandByte row.operand s, sr := withNZ s.sr (s.ac ||| operandByte row.operand s) }) ∧
    (∀ row ∈ eorRows b a, opcodeOf row.instr = some row.opcode ∧
      exec row.instr s = .next { afterRead row.operand s with
        ac := s.ac ^^^ operandByte row.operand s, sr := withNZ s.sr (s.ac ^^^ operandByte row.operand s) })

/-- BIT sets Z by the AND and copies N and V from the operand. R153, both modes. The spec's own choices here are D2
(log 6). -/
def Obligations.BitTestsTheOperand : Prop :=
  ∀ (b : Byte) (a : Word) (s : State), ∀ row ∈ bitRows b a,
    let m := operandByte row.operand s
    opcodeOf row.instr = some row.opcode ∧
    exec row.instr s = .next { afterRead row.operand s with
      sr := { s.sr with
        z := decide (s.ac &&& m = 0)
        n := decide (128 ≤ m.toNat)
        v := decide (64 ≤ m.toNat % 128) } }

/-- ASL on memory and on the accumulator: result, N, Z, C, nothing else. R161 with R160, the accumulator form and
every memory mode; the result as natural arithmetic. The spec's own choices here are D2, D10, D24 (log 6, 7, 13). -/
def Obligations.AslShiftsMemoryAndAccumulator : Prop :=
  ∀ (b : Byte) (a : Word) (s : State),
    (let v := s.ac
     let r : Byte := BitVec.ofNat 8 (v.toNat * 2 % 256)
     opcodeOf .aslAcc = some 0x0A ∧
     exec .aslAcc s = .next { advance s 0 1 with ac := r, sr := { withNZ s.sr r with c := decide (128 ≤ v.toNat) } }) ∧
    (∀ row ∈ aslRows b a,
      let ea := (resolve true row.operand s).1.toNat
      let v := cell s ea
      let r : Byte := BitVec.ofNat 8 (v.toNat * 2 % 256)
      opcodeOf row.instr = some row.opcode ∧ ∃ t, exec row.instr s = .next t ∧
      wroteOne s t ea r ∧ sameRegisters s t ∧ t.sr = { withNZ s.sr r with c := decide (128 ≤ v.toNat) } ∧
      t.pc = s.pc + BitVec.ofNat 16 (operandBytes row.operand) ∧ t.cyc + 1 = s.cyc + rmwTotal row.operand)

/-- LSR on memory and on the accumulator: result, N, Z, C, nothing else. R162 with R160, the accumulator form and
every memory mode; the result as natural arithmetic. The spec's own choices here are D2, D10, D24 (log 6, 7, 13). -/
def Obligations.LsrShiftsMemoryAndAccumulator : Prop :=
  ∀ (b : Byte) (a : Word) (s : State),
    (let v := s.ac
     let r : Byte := BitVec.ofNat 8 (v.toNat / 2)
     opcodeOf .lsrAcc = some 0x4A ∧
     exec .lsrAcc s = .next { advance s 0 1 with ac := r, sr := { withNZ s.sr r with c := decide (v.toNat % 2 = 1) } }) ∧
    (∀ row ∈ lsrRows b a,
      let ea := (resolve true row.operand s).1.toNat
      let v := cell s ea
      let r : Byte := BitVec.ofNat 8 (v.toNat / 2)
      opcodeOf row.instr = some row.opcode ∧ ∃ t, exec row.instr s = .next t ∧
      wroteOne s t ea r ∧ sameRegisters s t ∧ t.sr = { withNZ s.sr r with c := decide (v.toNat % 2 = 1) } ∧
      t.pc = s.pc + BitVec.ofNat 16 (operandBytes row.operand) ∧ t.cyc + 1 = s.cyc + rmwTotal row.operand)

/-- ROL on memory and on the accumulator: result, N, Z, C, nothing else. R163 with R160, the accumulator form and
every memory mode; the result as natural arithmetic. The spec's own choices here are D2, D10, D24 (log 6, 7, 13). -/
def Obligations.RolRotatesMemoryAndAccumulator : Prop :=
  ∀ (b : Byte) (a : Word) (s : State),
    (let v := s.ac
     let r : Byte := BitVec.ofNat 8 (v.toNat * 2 % 256 + s.sr.c.toNat)
     opcodeOf .rolAcc = some 0x2A ∧
     exec .rolAcc s = .next { advance s 0 1 with ac := r, sr := { withNZ s.sr r with c := decide (128 ≤ v.toNat) } }) ∧
    (∀ row ∈ rolRows b a,
      let ea := (resolve true row.operand s).1.toNat
      let v := cell s ea
      let r : Byte := BitVec.ofNat 8 (v.toNat * 2 % 256 + s.sr.c.toNat)
      opcodeOf row.instr = some row.opcode ∧ ∃ t, exec row.instr s = .next t ∧
      wroteOne s t ea r ∧ sameRegisters s t ∧ t.sr = { withNZ s.sr r with c := decide (128 ≤ v.toNat) } ∧
      t.pc = s.pc + BitVec.ofNat 16 (operandBytes row.operand) ∧ t.cyc + 1 = s.cyc + rmwTotal row.operand)

/-- ROR on memory and on the accumulator: result, N, Z, C, nothing else. R164 with R160, the accumulator form and
every memory mode; the result as natural arithmetic. The spec's own choices here are D2, D10, D24 (log 6, 7, 13). -/
def Obligations.RorRotatesMemoryAndAccumulator : Prop :=
  ∀ (b : Byte) (a : Word) (s : State),
    (let v := s.ac
     let r : Byte := BitVec.ofNat 8 (v.toNat / 2 + 128 * s.sr.c.toNat)
     opcodeOf .rorAcc = some 0x6A ∧
     exec .rorAcc s = .next { advance s 0 1 with ac := r, sr := { withNZ s.sr r with c := decide (v.toNat % 2 = 1) } }) ∧
    (∀ row ∈ rorRows b a,
      let ea := (resolve true row.operand s).1.toNat
      let v := cell s ea
      let r : Byte := BitVec.ofNat 8 (v.toNat / 2 + 128 * s.sr.c.toNat)
      opcodeOf row.instr = some row.opcode ∧ ∃ t, exec row.instr s = .next t ∧
      wroteOne s t ea r ∧ sameRegisters s t ∧ t.sr = { withNZ s.sr r with c := decide (v.toNat % 2 = 1) } ∧
      t.pc = s.pc + BitVec.ofNat 16 (operandBytes row.operand) ∧ t.cyc + 1 = s.cyc + rmwTotal row.operand)

/-- INC and DEC change one byte of memory by one, modulo 256, and set N and Z. R165, R166, every mode; minus 1 is plus
255 modulo 256. The spec's own choices here are D1, D2, D10, D17, D24 (log 6, 7, 12, 13). -/
def Obligations.IncDecModifyMemory : Prop :=
  ∀ (b : Byte) (a : Word) (s : State),
    (∀ row ∈ incRows b a,
      let ea := (resolve true row.operand s).1.toNat
      let r : Byte := BitVec.ofNat 8 (((cell s ea).toNat + 1) % 256)
      opcodeOf row.instr = some row.opcode ∧ ∃ t, exec row.instr s = .next t ∧
      wroteOne s t ea r ∧ sameRegisters s t ∧ t.sr = withNZ s.sr r ∧
      t.pc = s.pc + BitVec.ofNat 16 (operandBytes row.operand) ∧ t.cyc + 1 = s.cyc + rmwTotal row.operand) ∧
    (∀ row ∈ decRows b a,
      let ea := (resolve true row.operand s).1.toNat
      let r : Byte := BitVec.ofNat 8 (((cell s ea).toNat + 255) % 256)
      opcodeOf row.instr = some row.opcode ∧ ∃ t, exec row.instr s = .next t ∧
      wroteOne s t ea r ∧ sameRegisters s t ∧ t.sr = withNZ s.sr r ∧
      t.pc = s.pc + BitVec.ofNat 16 (operandBytes row.operand) ∧ t.cyc + 1 = s.cyc + rmwTotal row.operand)

/-- INX, INY, DEX and DEY change a register by one, modulo 256, and set N and Z. R167 to R170. The spec's own choices
here are D1, D2, D9, D17 (log 6, 7, 12). -/
def Obligations.RegisterIncDecWrap : Prop :=
  ∀ s : State,
    (opcodeOf .inx = some 0xE8 ∧ exec .inx s = .next { advance s 0 1 with
      x := BitVec.ofNat 8 ((s.x.toNat + 1) % 256)
      sr := withNZ s.sr (BitVec.ofNat 8 ((s.x.toNat + 1) % 256)) }) ∧
    (opcodeOf .iny = some 0xC8 ∧ exec .iny s = .next { advance s 0 1 with
      y := BitVec.ofNat 8 ((s.y.toNat + 1) % 256)
      sr := withNZ s.sr (BitVec.ofNat 8 ((s.y.toNat + 1) % 256)) }) ∧
    (opcodeOf .dex = some 0xCA ∧ exec .dex s = .next { advance s 0 1 with
      x := BitVec.ofNat 8 ((s.x.toNat + 255) % 256)
      sr := withNZ s.sr (BitVec.ofNat 8 ((s.x.toNat + 255) % 256)) }) ∧
    (opcodeOf .dey = some 0x88 ∧ exec .dey s = .next { advance s 0 1 with
      y := BitVec.ofNat 8 ((s.y.toNat + 255) % 256)
      sr := withNZ s.sr (BitVec.ofNat 8 ((s.y.toNat + 255) % 256)) })

/-- The seven flag instructions set exactly one flag to a literal. R180 to R186. The spec's own choices here are D2,
D8, D15, D16 (log 6, 7, 11). -/
def Obligations.FlagInstructionsSetOneFlag : Prop :=
  ∀ s : State,
    (opcodeOf .clc = some 0x18 ∧ exec .clc s = .next { advance s 0 1 with sr := { s.sr with c := false } }) ∧
    (opcodeOf .cld = some 0xD8 ∧ exec .cld s = .next { advance s 0 1 with sr := { s.sr with d := false } }) ∧
    (opcodeOf .cli = some 0x58 ∧ exec .cli s = .next { advance s 0 1 with sr := { s.sr with i := false } }) ∧
    (opcodeOf .clv = some 0xB8 ∧ exec .clv s = .next { advance s 0 1 with sr := { s.sr with v := false } }) ∧
    (opcodeOf .sec = some 0x38 ∧ exec .sec s = .next { advance s 0 1 with sr := { s.sr with c := true } }) ∧
    (opcodeOf .sed = some 0xF8 ∧ exec .sed s = .next { advance s 0 1 with sr := { s.sr with d := true } }) ∧
    (opcodeOf .sei = some 0x78 ∧ exec .sei s = .next { advance s 0 1 with sr := { s.sr with i := true } })

/-- NOP changes nothing but PC and CYC. R187, as execution and as a step. The spec's own choices here are D1, D2, D9
(log 6, 7). -/
def Obligations.NopOnlyTakesTime : Prop :=
  (∀ s : State, opcodeOf .nop = some 0xEA ∧ exec .nop s = .next { s with cyc := s.cyc + 1 }) ∧
  (∀ s : State, cell s s.pc.toNat = 0xEA → step s = .next { s with pc := s.pc + 1, cyc := s.cyc + 2 })

/-- JMP sets PC to its effective address; the indirect form wraps in its page. R190 with R105 and R108. The spec's own
choices here are D2 (log 6). -/
def Obligations.JmpSetsPc : Prop :=
  ∀ (a p : Word) (s : State),
    opcodeOf (.jmpAbs a) = some 0x4C ∧ opcodeOf (.jmpInd p) = some 0x6C ∧
    exec (.jmpAbs a) s = .next { s with pc := a, cyc := s.cyc + 2 } ∧
    exec (.jmpInd p) s = .next { s with
      pc := BitVec.ofNat 16 (word16 s p.toNat (p.toNat / 256 * 256 + (p.toNat % 256 + 1) % 256))
      cyc := s.cyc + 4 }

/-- JSR pushes the address of its last byte, high byte first, and jumps. R191; `s.pc` is A + 1, so that the pushed
address A + 2 is `s.pc + 1`. The spec's own choices here are D2, D9, D19 (log 6, 7, 13). -/
def Obligations.JsrPushesReturnAddress : Prop :=
  ∀ (a : Word) (s : State), encode (.jsr a) = [0x20, lo a, hi a] ∧ ∃ t, exec (.jsr a) s = .next t ∧
    t.pc = a ∧ t.sp = s.sp - 2 ∧ t.cyc + 1 = s.cyc + 6 ∧ t.ac = s.ac ∧ t.x = s.x ∧ t.y = s.y ∧ t.sr = s.sr ∧
    (cell t (stackCell s.sp)).toNat = (s.pc + 1).toNat / 256 ∧
    (cell t (stackCell (s.sp - 1))).toNat = (s.pc + 1).toNat % 256 ∧
    ∀ n, n ≠ stackCell s.sp → n ≠ stackCell (s.sp - 1) → cell t n = cell s n

/-- RTS pops low then high and continues at that address plus 1. R192. The spec's own choices here are D2, D9 (log 6,
7). -/
def Obligations.RtsReturnsPastTheCall : Prop :=
  ∀ s : State, opcodeOf .rts = some 0x60 ∧ exec .rts s = .next { s with
    pc := BitVec.ofNat 16 ((word16 s (stackCell (s.sp + 1)) (stackCell (s.sp + 2)) + 1) % 65536)
    sp := s.sp + 2
    cyc := s.cyc + 5 }

/-- A subroutine that leaves the stack as it found it returns past the JSR. "JSR at address A then RTS restores PC to
A+3" (R191's example): `s.pc` is A + 1. The spec's own choices here are D2, D9, D19 (log 6, 7, 13). -/
def Obligations.JsrThenRtsReturns : Prop :=
  ∀ (a : Word) (s t u : State), exec (.jsr a) s = .next t → u.sp = t.sp → sameStackPage t u →
    ∃ v, exec .rts u = .next v ∧ v.pc = s.pc + 2 ∧ v.sp = s.sp

/-- Each branch tests its flag and moves PC by the signed displacement if it holds. R112, R193 and R194 to R201; the
page test is against A + 2, which is `s.pc + 1`. The spec's own choices here are D2, D18 (log 6, 7). -/
def Obligations.BranchesTestOneFlag : Prop :=
  ∀ (d : Byte) (s : State),
    (opcodeOf (.bcc d) = some 0x90 ∧ exec (.bcc d) s = .next (branched (!s.sr.c) d s)) ∧
    (opcodeOf (.bcs d) = some 0xB0 ∧ exec (.bcs d) s = .next (branched (s.sr.c) d s)) ∧
    (opcodeOf (.beq d) = some 0xF0 ∧ exec (.beq d) s = .next (branched (s.sr.z) d s)) ∧
    (opcodeOf (.bmi d) = some 0x30 ∧ exec (.bmi d) s = .next (branched (s.sr.n) d s)) ∧
    (opcodeOf (.bne d) = some 0xD0 ∧ exec (.bne d) s = .next (branched (!s.sr.z) d s)) ∧
    (opcodeOf (.bpl d) = some 0x10 ∧ exec (.bpl d) s = .next (branched (!s.sr.n) d s)) ∧
    (opcodeOf (.bvc d) = some 0x50 ∧ exec (.bvc d) s = .next (branched (!s.sr.v) d s)) ∧
    (opcodeOf (.bvs d) = some 0x70 ∧ exec (.bvs d) s = .next (branched (s.sr.v) d s))

/-- PHA and PHP push one byte at 0x0100 + SP and lower SP. R210, R211. The spec's own choices here are D1, D2, D9, D13
(log 6, 7, 10). -/
def Obligations.PushesWriteTheStackPage : Prop :=
  ∀ s : State,
    (opcodeOf .pha = some 0x48 ∧ ∃ t, exec .pha s = .next t ∧ wroteOne s t (stackCell s.sp) s.ac ∧
      t.sp = s.sp - 1 ∧ t.ac = s.ac ∧ t.x = s.x ∧ t.y = s.y ∧ t.sr = s.sr ∧ t.pc = s.pc ∧ t.cyc + 1 = s.cyc + 3) ∧
    (opcodeOf .php = some 0x08 ∧ ∃ t p, exec .php s = .next t ∧ wroteOne s t (stackCell s.sp) p ∧
      p.toNat = 128 * s.sr.n.toNat + 64 * s.sr.v.toNat + 32 + 16 * s.sr.b.toNat + 8 * s.sr.d.toNat +
        4 * s.sr.i.toNat + 2 * s.sr.z.toNat + s.sr.c.toNat ∧
      t.sp = s.sp - 1 ∧ t.ac = s.ac ∧ t.x = s.x ∧ t.y = s.y ∧ t.sr = s.sr ∧ t.pc = s.pc ∧ t.cyc + 1 = s.cyc + 3)

/-- PLA and PLP raise SP and read one byte at 0x0100 + SP. R212, R213. The spec's own choices here are D1, D2, D9,
D13, D17 (log 6, 7, 10, 12). -/
def Obligations.PullsReadTheStackPage : Prop :=
  ∀ s : State,
    let p := cell s (stackCell (s.sp + 1))
    (opcodeOf .pla = some 0x68 ∧ exec .pla s = .next { s with
      ac := p, sp := s.sp + 1, sr := withNZ s.sr p, cyc := s.cyc + 3 }) ∧
    (opcodeOf .plp = some 0x28 ∧ exec .plp s = .next { s with
      sp := s.sp + 1
      cyc := s.cyc + 3
      sr := { n := p.getLsbD 7, v := p.getLsbD 6, b := p.getLsbD 4, d := p.getLsbD 3, i := p.getLsbD 2
              z := p.getLsbD 1, c := p.getLsbD 0 } })

/-- BRK sets B, pushes PC and the flattened SR, and continues at the BRK vector. R214; `s.pc` is A + 1, the pushed PC
(log 5). The spec's own choices here are D2, D9, D12, D13, D20 (log 6, 7, 9, 10, 13). -/
def Obligations.BrkEntersTheTrap : Prop :=
  ∀ s : State, opcodeOf .brk = some 0x00 ∧ ∃ t, exec .brk s = .next t ∧
    t.sr = { s.sr with b := true } ∧ t.ac = s.ac ∧ t.x = s.x ∧ t.y = s.y ∧
    t.sp = s.sp - 3 ∧ t.cyc + 1 = s.cyc + 7 ∧ t.pc.toNat = word16 s 0xFFFE 0xFFFF ∧
    (cell t (stackCell s.sp)).toNat = s.pc.toNat / 256 ∧
    (cell t (stackCell (s.sp - 1))).toNat = s.pc.toNat % 256 ∧
    (cell t (stackCell (s.sp - 2))).toNat = 128 * s.sr.n.toNat + 64 * s.sr.v.toNat + 32 + 16 +
      8 * s.sr.d.toNat + 4 * s.sr.i.toNat + 2 * s.sr.z.toNat + s.sr.c.toNat ∧
    ∀ n, n ≠ stackCell s.sp → n ≠ stackCell (s.sp - 1) → n ≠ stackCell (s.sp - 2) → cell t n = cell s n

/-- RTI pops SR, then PC low and high, with no adjustment. R215. The spec's own choices here are D2, D9, D12, D13 (log
6, 7, 9, 10). -/
def Obligations.RtiReturnsFromTheTrap : Prop :=
  ∀ s : State,
    let p := cell s (stackCell (s.sp + 1))
    opcodeOf .rti = some 0x40 ∧ exec .rti s = .next { s with
      sr := { n := p.getLsbD 7, v := p.getLsbD 6, b := p.getLsbD 4, d := p.getLsbD 3, i := p.getLsbD 2
              z := p.getLsbD 1, c := p.getLsbD 0 }
      pc := BitVec.ofNat 16 (word16 s (stackCell (s.sp + 2)) (stackCell (s.sp + 3)))
      sp := s.sp + 3
      cyc := s.cyc + 5 }

/-- BRK then RTI restores PC and all flags but B, whatever the handler does between. "BRK followed by RTI restores PC
and status flags to their pre-BRK values (except B, which BRK sets)" (R227); the pre-BRK PC is the one after the
opcode (log 5). The spec's own choices here are D2, D9, D12, D13 (log 6, 7, 9, 10). -/
def Obligations.BrkThenRtiRestores : Prop :=
  ∀ s t u : State, exec .brk s = .next t → u.sp = t.sp → sameStackPage t u →
    ∃ v, exec .rti u = .next v ∧ v.pc = s.pc ∧ v.sp = s.sp ∧ v.sr = { s.sr with b := true }

/-- PHA then PLA, and PHP then PLP, give back what was pushed and the old SP. "push(v) then pop() returns v unchanged
and restores SP to its pre-push value" (R210). The spec's own choices here are D1, D2, D3, D9, D13, D17 (log 1, 6, 7,
10, 12). -/
def Obligations.PushThenPullRestores : Prop :=
  ∀ s t u : State, u.sp = t.sp → sameStackPage t u →
    (exec .pha s = .next t → ∃ v, exec .pla u = .next v ∧ v.ac = s.ac ∧ v.sp = s.sp) ∧
    (exec .php s = .next t → ∃ v, exec .plp u = .next v ∧ v.sr = s.sr ∧ v.sp = s.sp)

/-- SR as a byte: the layout N V 1 B D I Z C, and back. R26, R27. That PHP and BRK push the flattened byte with the
stored B, and that PLP and RTI load it, is said of their execution here too; that BRK pushes it with B already set is
D12's choice (R214, log 9). The spec's own choices here are D2, D9, D12, D13 (log 6, 7, 9, 10). -/
def Obligations.FlattenAndUnflattenLayout : Prop :=
  (∀ f : Flags, f.flatten.toNat = 128 * f.n.toNat + 64 * f.v.toNat + 32 + 16 * f.b.toNat + 8 * f.d.toNat +
      4 * f.i.toNat + 2 * f.z.toNat + f.c.toNat) ∧
  (∀ b : Byte, Flags.unflatten b = { n := b.getLsbD 7, v := b.getLsbD 6, b := b.getLsbD 4, d := b.getLsbD 3
                                     i := b.getLsbD 2, z := b.getLsbD 1, c := b.getLsbD 0 }) ∧
  (∀ b : Byte, (Flags.unflatten b).flatten = b ||| 0x20) ∧
  (∀ f : Flags, Flags.unflatten f.flatten = f) ∧
  State.reset.sr.flatten = 0x20 ∧
  (∀ s : State, (∃ t, exec .php s = .next t ∧ cell t (stackCell s.sp) = s.sr.flatten) ∧
    (∃ t, exec .brk s = .next t ∧ cell t (stackCell (s.sp - 2)) = Flags.flatten { s.sr with b := true }) ∧
    (∃ t, exec .plp s = .next t ∧ t.sr = Flags.unflatten (cell s (stackCell (s.sp + 1)))) ∧
    (∃ t, exec .rti s = .next t ∧ t.sr = Flags.unflatten (cell s (stackCell (s.sp + 1)))) ∧
    observe { st := s, cond := .halted } = some (.snapshot s.pc s.ac s.x s.y s.sp s.sr.flatten s.cyc))

/-- A read gives the last byte written there; a write changes no other cell. R41; the address is any 16-bit word, so
that all 65536 cells are RAM (R40, R46). No premise on the list: the laws hold for any. The spec's own choices here
are D4, D5 (log 1). -/
def Obligations.MemoryReadAfterWrite : Prop :=
  ∀ (s : State) (a b : Word) (v w : Byte),
    ((s.memWrite a v).memRead a).1 = v ∧
    (b ≠ a → ((s.memWrite a v).memRead b).1 = (s.memRead b).1) ∧
    sameMemory ((s.memWrite a w).memWrite a v) (s.memWrite a v) ∧
    (s.memRead a).2 = { s with cyc := s.cyc + 1 }

/-- A store to the next opcode byte is what the next step fetches. "A store is therefore seen by every later fetch,
the fetch of the very next opcode byte included" (R51). The spec's own choices here are D2 (log 6). -/
def Obligations.StoreIsSeenByTheNextFetch : Prop :=
  ∀ (s : State) (l h : Byte), s.fetchBytes = [0x8D, l, h] →
    ∃ t, step s = .next t ∧ t.pc = s.pc + 3 ∧
      t.opcodeAt = if t.pc.toNat = 256 * h.toNat + l.toNat then s.ac else cell s (s.pc + 3).toNat

/-- Construction loads the image, writes the reset vector and clears the rest. R240 for every value of its parameters,
with their defaults 0x0200, LOAD_ADDR and 0xFF. The spec's own choices here are D3, D4, D5, D7, D20 (log 1, 13, 14).
-/
def Obligations.ConstructionGivesTheResetValues : Prop :=
  (∀ p : Config.Params, p.program.length ≤ 65536 →
    ∃ s, construct p = .next s ∧ Session.start p = { st := s, cond := .running } ∧
      s.pc = p.entry ∧ s.ac = 0 ∧ s.x = 0 ∧ s.y = 0 ∧ s.sp = p.spReset ∧ s.cyc = 0 ∧
      s.sr = { n := false, v := false, b := false, d := false, i := false, z := false, c := false } ∧
      (cell s 0xFFFC).toNat = p.entry.toNat % 256 ∧ (cell s 0xFFFD).toNat = p.entry.toNat / 256 ∧
      (∀ k v, p.program[k]? = some v → (p.loadAddr.toNat + k) % 65536 ≠ 0xFFFC →
        (p.loadAddr.toNat + k) % 65536 ≠ 0xFFFD → cell s ((p.loadAddr.toNat + k) % 65536) = v) ∧
      (∀ n, n ≠ 0xFFFC → n ≠ 0xFFFD → (∀ k, k < p.program.length → (p.loadAddr.toNat + k) % 65536 ≠ n) →
        cell s n = 0)) ∧
  (∀ (image : List Byte) (la : Word),
    ({ program := image } : Config.Params) = { program := image, loadAddr := 0x0200, entry := 0x0200, spReset := 0xFF } ∧
    ({ program := image, loadAddr := la } : Config.Params).entry = la)

/-- Construction refuses an image longer than the memory. U10: the length is a precondition of construction. That
construction then answers the refusal programTooLong is the model's own DESIGN CHOICE (log 18); the spec only makes
the length a precondition. -/
def Obligations.TooLongImageIsRefused : Prop :=
  ∀ p : Config.Params, 65536 < p.program.length → construct p = .refused .programTooLong

/-- The loop tests the policy before every fetch, then takes one step; ended runs stay ended. R85's loop and R80's
terminal conditions, for every policy. Its faulting branch is FaultEndsTheRun. The spec's own choices here are D6, D14
(log 15, 16). -/
def Obligations.LoopTestsHaltThenSteps : Prop :=
  ∀ (halt : State → Bool) (s t : State) (c : Condition) (fuel : Nat),
    (halt s = true → loopTurn halt { st := s, cond := .running } = { st := s, cond := .halted }) ∧
    (halt s = false → step s = .next t →
      loopTurn halt { st := s, cond := .running } = { st := t, cond := .running }) ∧
    (c ≠ .running → runLoop halt fuel { st := s, cond := c } = { st := s, cond := c })

/-- A ProgrammingFault records opcode and address, leaves PC past the opcode, and ends the run. R222's state at the
fault, R80's terminal condition and R86's observation. The spec's own choices here are D1, D2, D6, D14 (log 6, 15,
16). -/
def Obligations.FaultEndsTheRun : Prop :=
  ∀ (halt : State → Bool) (s : State) (fuel : Nat), halt s = false → cell s s.pc.toNat ∈ illegalOpcodes →
    let op := cell s s.pc.toNat
    runLoop halt (fuel + 1) { st := s, cond := .running } =
      { st := { s with pc := s.pc + 1, cyc := s.cyc + 1 }, cond := .faulted op s.pc } ∧
    observe (runLoop halt (fuel + 1) { st := s, cond := .running }) = some (.fault op s.pc)

/-- The default policy holds exactly when PC is not an address of the image. R84. That the policy is tested only
before an opcode fetch is said through the loop's turn. The spec's own choices here are D6 (log 16). -/
def Obligations.DefaultHaltIsOutsideTheImage : Prop :=
  (∀ (la : Word) (n : Nat) (s : State),
    (haltDefault la n s = true ↔ n ≤ (s.pc.toNat + (65536 - la.toNat)) % 65536)) ∧
  (∀ (la : Word) (s : State), haltDefault la 0 s = true ∧ haltDefault la 65536 s = false) ∧
  (∀ (la : Word) (n : Nat) (s t : State),
    (haltDefault la n s = true →
      loopTurn (haltDefault la n) { st := s, cond := .running } = { st := s, cond := .halted }) ∧
    (haltDefault la n s = false → step s = .next t →
      loopTurn (haltDefault la n) { st := s, cond := .running } = { st := t, cond := .running }))

/-- A halted run shows the registers, the flattened SR and CYC. R86. -/
def Obligations.HaltedRunIsObserved : Prop :=
  ∀ s : State,
    observe { st := s, cond := .halted } = some (.snapshot s.pc s.ac s.x s.y s.sp s.sr.flatten s.cyc) ∧
    (∀ op a, observe { st := s, cond := .faulted op a } = some (.fault op a)) ∧
    observe { st := s, cond := .running } = none

/-- After any sequence of accesses, a cell reads the latest byte written there, or what it held before. R41: prior
contents do not matter, a cell never written since construction gives its construction value (take `s` to be the
constructed state), reads are idempotent, and no address has a side effect. -/
def Obligations.ReadGivesTheLatestWrite : Prop :=
  ∀ (s : State) (accesses : List (Word × Option Byte)) (b : Word),
    let t := accesses.foldl access s
    (t.memRead b).1 = (latestWrite b accesses).getD (s.memRead b).1 ∧
    t.pc = s.pc ∧ sameRegisters s t ∧ t.sr = s.sr ∧
    ((∀ x ∈ accesses, x.2 = none) → t = { s with cyc := t.cyc })

/-- A sequence of accesses costs one cycle for each; Tick(n) costs n and does nothing else. R10, R31: each MemRead and
MemWrite adds 1, Tick(n) adds n. R42: "every bus access increments the cycle counter by exactly 1". That CYC grows
without bound, for a sequence of any length, is a DESIGN CHOICE (log 14). The spec's own choices here are D7 (log 14).
-/
def Obligations.EachAccessCostsOneCycle : Prop :=
  ∀ (s : State) (accesses : List (Word × Option Byte)) (n : Nat),
    (accesses.foldl access s).cyc = s.cyc + accesses.length ∧ s.tick n = { s with cyc := s.cyc + n }
end

