-- ==== Sys2Proof/Laws/Decode.lean ====
section
/-! SUPPORT. What the decoder answers, said once for each shape of table entry. -/

namespace Sys2Proof

theorem decode_noEntry {op : Byte} (rest : List Byte) (h : tableEntry op = none) :
    decode (op :: rest) = .error (.noEntry op) := by simp [decode, h]

theorem decode_bare {op : Byte} {i : Instr} (rest : List Byte) (h : tableEntry op = some (.bare i)) :
    decode (op :: rest) = .ok (i, rest) := by simp [decode, h]

theorem decode_byte {op : Byte} {f : Byte → Instr} (b : Byte) (rest : List Byte) (h : tableEntry op = some (.byte f)) :
    decode (op :: b :: rest) = .ok (f b, rest) := by simp [decode, h]

theorem decode_word {op : Byte} {f : Word → Instr} (l hb : Byte) (rest : List Byte) (h : tableEntry op = some (.word f)) :
    decode (op :: l :: hb :: rest) = .ok (f (join hb l), rest) := by simp [decode, h]

/-- Three bytes are enough: they hold an instruction, or their first byte has no entry. -/
theorem decode_three (op b c : Byte) :
    (∃ i rest, decode [op, b, c] = .ok (i, rest)) ∨ (tableEntry op = none ∧ decode [op, b, c] = .error (.noEntry op)) := by
  cases h : tableEntry op with
  | none => exact .inr ⟨rfl, decode_noEntry _ h⟩
  | some e =>
    cases e with
    | bare i => exact .inl ⟨_, _, decode_bare _ h⟩
    | byte f => exact .inl ⟨_, _, decode_byte _ _ h⟩
    | word f => exact .inl ⟨_, _, decode_word _ _ _ h⟩

/-- The two bytes of a word, put together again. -/
@[simp] theorem join_hi_lo (w : Word) : join (hi w) (lo w) = w := by
  apply BitVec.eq_of_toNat_eq
  have := w.isLt
  simp only [join, hi, lo, BitVec.toNat_append, BitVec.extractLsb'_toNat]
  rw [Nat.shiftLeft_eq, Nat.mul_comm, ← Nat.two_pow_add_eq_or_of_lt (Nat.mod_lt _ (by decide))]
  simp only [Nat.shiftRight_eq_div_pow]
  omega

@[simp] theorem hi_join (h l : Byte) : hi (join h l) = h := by
  apply BitVec.eq_of_getLsbD_eq
  intro i hi'
  simp only [hi, join, BitVec.getLsbD_extractLsb', BitVec.getLsbD_append]
  simp [hi']

@[simp] theorem lo_join (h l : Byte) : lo (join h l) = l := by
  apply BitVec.eq_of_getLsbD_eq
  intro i hi'
  simp only [lo, join, BitVec.getLsbD_extractLsb', BitVec.getLsbD_append]
  simp [hi']

end Sys2Proof
end

