-- ==== Sys2Proof/Laws/Memory.lean ====
section
/-! SUPPORT. The laws of the byte store: what a read gives after a write (for any list, canonical or not), that
every operation keeps the canonical form, and that the canonical form is unique. -/

namespace Sys2Proof.Machine.Memory

@[simp] theorem read_nil (a : Nat) : read [] a = unlisted := rfl

theorem read_erase (m : Memory) (a b : Nat) : read (erase a m) b = if b = a then unlisted else read m b := by
  induction m with
  | nil => simp [erase]
  | cons cell rest ih =>
    simp only [erase] at ih
    by_cases hc : cell.1 = a
    · simp only [erase, List.filter_cons, hc, bne_self_eq_false, Bool.false_eq_true, if_false, ih, read]
      grind
    · have : (cell.1 != a) = true := by simpa using hc
      simp only [erase, List.filter_cons, this, if_true, read, ih]
      grind

theorem read_insert (m : Memory) (a b : Nat) (v : Byte) (hm : ∀ c ∈ m, c.1 ≠ a) :
    read (insert a v m) b = if b = a then v else read m b := by
  induction m with
  | nil => simp only [insert, read]; grind
  | cons cell rest ih =>
    have hr : ∀ c ∈ rest, c.1 ≠ a := fun c hc => hm c (List.mem_cons_of_mem _ hc)
    have hc : cell.1 ≠ a := hm cell List.mem_cons_self
    simp only [insert]
    split
    · simp only [read]; grind
    · simp only [read, ih hr]; grind

theorem erase_absent (m : Memory) (a : Nat) : ∀ c ∈ erase a m, c.1 ≠ a := by
  intro c hc
  simpa using (List.mem_filter.mp hc).2

/-- Reading after a write: the byte at the written address, and every other byte as before. -/
theorem read_write (m : Memory) (a b : Nat) (v : Byte) : read (write m a v) b = if b = a then v else read m b := by
  unfold write
  split
  · rename_i hv; simp [read_erase, hv]
  · rw [read_insert _ _ _ _ (erase_absent m a), read_erase]; grind

@[simp] theorem read_write_same (m : Memory) (a : Nat) (v : Byte) : read (write m a v) a = v := by simp [read_write]

theorem read_write_other (m : Memory) {a b : Nat} (v : Byte) (h : b ≠ a) : read (write m a v) b = read m b := by
  simp [read_write, h]

theorem risesFrom_mono {m : Memory} {l k : Nat} (h : l ≤ k) (hm : risesFrom k m = true) : risesFrom l m = true := by
  cases m with
  | nil => rfl
  | cons cell rest => simp only [risesFrom, Bool.and_eq_true, decide_eq_true_eq] at hm ⊢; grind

theorem risesFrom_erase {m : Memory} (a : Nat) {l : Nat} (hm : risesFrom l m = true) : risesFrom l (erase a m) = true := by
  induction m generalizing l with
  | nil => rfl
  | cons cell rest ih =>
    simp only [risesFrom, Bool.and_eq_true, decide_eq_true_eq] at hm
    have hr := ih hm.2
    by_cases hc : (cell.1 != a) = true
    · simp only [erase, List.filter_cons, hc, if_true, risesFrom, Bool.and_eq_true, decide_eq_true_eq]
      exact ⟨hm.1, hr⟩
    · simp only [erase, List.filter_cons, hc]
      exact risesFrom_mono (by have := hm.1.1.1; omega) hr

theorem risesFrom_insert {m : Memory} {a l : Nat} {v : Byte} (hv : v ≠ unlisted) (ha : a < 65536) (hl : l ≤ a)
    (hn : ∀ c ∈ m, c.1 ≠ a) (hm : risesFrom l m = true) : risesFrom l (insert a v m) = true := by
  induction m generalizing l with
  | nil => simp [insert, risesFrom, hl, ha, hv]
  | cons cell rest ih =>
    have hc : cell.1 ≠ a := hn cell List.mem_cons_self
    have hr : ∀ c ∈ rest, c.1 ≠ a := fun c h => hn c (List.mem_cons_of_mem _ h)
    simp only [risesFrom, Bool.and_eq_true, decide_eq_true_eq] at hm
    simp only [insert]
    split
    · simp only [risesFrom, Bool.and_eq_true, decide_eq_true_eq, bne_iff_ne, ne_eq]
      refine ⟨⟨⟨hl, ha⟩, hv⟩, ⟨⟨⟨?_, hm.1.1.2⟩, by simpa using hm.1.2⟩, hm.2⟩⟩
      omega
    · simp only [risesFrom, Bool.and_eq_true, decide_eq_true_eq]
      exact ⟨hm.1, ih (by omega) hr hm.2⟩

/-- A write at an address of the space keeps the canonical form. -/
theorem write_wf {m : Memory} {a : Nat} (v : Byte) (ha : a < 65536) (hm : m.wf = true) : (write m a v).wf = true := by
  unfold write
  split
  · exact risesFrom_erase a hm
  · rename_i hv
    exact risesFrom_insert hv ha (Nat.zero_le _) (erase_absent m a) (risesFrom_erase a hm)

/-- A write at a word address keeps the canonical form. -/
theorem write_word_wf {m : Memory} (a : Word) (v : Byte) (hm : m.wf = true) : (write m a.toNat v).wf = true :=
  write_wf v (by have := a.isLt; omega) hm

theorem bulkWrite_wf {m : Memory} (a : Word) (bytes : List Byte) (hm : m.wf = true) : (bulkWrite m a bytes).wf = true := by
  induction bytes generalizing m a with
  | nil => exact hm
  | cons b rest ih => exact ih (a + 1) (write_word_wf a b hm)

theorem read_below {m : Memory} {l a : Nat} (hm : risesFrom l m = true) (ha : a < l) : read m a = unlisted := by
  induction m generalizing l with
  | nil => rfl
  | cons cell rest ih =>
    simp only [risesFrom, Bool.and_eq_true, decide_eq_true_eq] at hm
    have : cell.1 ≠ a := by have := hm.1.1.1; omega
    simp only [read, this, if_false]
    exact ih hm.2 (by have := hm.1.1.1; omega)

theorem risesFrom_ext {m₁ m₂ : Memory} {l₁ l₂ : Nat} (h₁ : risesFrom l₁ m₁ = true) (h₂ : risesFrom l₂ m₂ = true)
    (h : ∀ a, read m₁ a = read m₂ a) : m₁ = m₂ := by
  induction m₁ generalizing m₂ l₁ l₂ with
  | nil =>
    cases m₂ with
    | nil => rfl
    | cons c r =>
      simp only [risesFrom, Bool.and_eq_true, decide_eq_true_eq, bne_iff_ne] at h₂
      have := h c.1
      simp [read] at this
      exact absurd this.symm h₂.1.2
  | cons c r ih =>
    cases m₂ with
    | nil =>
      simp only [risesFrom, Bool.and_eq_true, decide_eq_true_eq, bne_iff_ne] at h₁
      have := h c.1
      simp [read] at this
      exact absurd this h₁.1.2
    | cons d q =>
      simp only [risesFrom, Bool.and_eq_true, decide_eq_true_eq, bne_iff_ne] at h₁ h₂
      have hcd : c.1 = d.1 := by
        rcases Nat.lt_trichotomy c.1 d.1 with hlt | heq | hgt
        · have e := h c.1
          have hb : read q c.1 = unlisted := read_below h₂.2 (by omega)
          have : d.1 ≠ c.1 := by omega
          simp only [read, if_true, this, if_false, hb] at e
          exact absurd e h₁.1.2
        · exact heq
        · have e := h d.1
          have hb : read r d.1 = unlisted := read_below h₁.2 (by omega)
          have : c.1 ≠ d.1 := by omega
          simp only [read, if_true, this, if_false, hb] at e
          exact absurd e.symm h₂.1.2
      have hv : c.2 = d.2 := by have e := h c.1; simpa [read, hcd] using e
      have hrest : r = q := by
        refine ih h₁.2 h₂.2 (fun a => ?_)
        by_cases ha : a = c.1
        · subst ha
          rw [read_below h₁.2 (by omega), read_below h₂.2 (by omega)]
        · have e := h a
          have h1 : c.1 ≠ a := fun x => ha x.symm
          have h2 : d.1 ≠ a := by omega
          simpa only [read, h1, h2, if_false] using e
      exact List.cons_eq_cons.mpr ⟨Prod.ext hcd hv, hrest⟩

/-- Canonical memories that read alike are the same list. -/
theorem wf_ext {m₁ m₂ : Memory} (h₁ : m₁.wf = true) (h₂ : m₂.wf = true) (h : ∀ a, read m₁ a = read m₂ a) : m₁ = m₂ :=
  risesFrom_ext h₁ h₂ h

theorem reset_wf : State.reset.mem.wf = true := by decide

end Sys2Proof.Machine.Memory
end

