-- ==== Sys2Proof/Laws/State.lean ====
section
/-! SUPPORT. One lemma per field per update of the state, each true by definition, so that no later proof
unfolds a record update. -/

namespace Sys2Proof.Machine

@[simp] theorem tick_pc (s : State) (n : Nat) : (s.tick n).pc = s.pc := rfl
@[simp] theorem tick_ac (s : State) (n : Nat) : (s.tick n).ac = s.ac := rfl
@[simp] theorem tick_x (s : State) (n : Nat) : (s.tick n).x = s.x := rfl
@[simp] theorem tick_y (s : State) (n : Nat) : (s.tick n).y = s.y := rfl
@[simp] theorem tick_sp (s : State) (n : Nat) : (s.tick n).sp = s.sp := rfl
@[simp] theorem tick_sr (s : State) (n : Nat) : (s.tick n).sr = s.sr := rfl
@[simp] theorem tick_cyc (s : State) (n : Nat) : (s.tick n).cyc = s.cyc + n := rfl
@[simp] theorem tick_mem (s : State) (n : Nat) : (s.tick n).mem = s.mem := rfl

@[simp] theorem memWrite_pc (s : State) (a : Word) (v : Byte) : (s.memWrite a v).pc = s.pc := rfl
@[simp] theorem memWrite_ac (s : State) (a : Word) (v : Byte) : (s.memWrite a v).ac = s.ac := rfl
@[simp] theorem memWrite_x (s : State) (a : Word) (v : Byte) : (s.memWrite a v).x = s.x := rfl
@[simp] theorem memWrite_y (s : State) (a : Word) (v : Byte) : (s.memWrite a v).y = s.y := rfl
@[simp] theorem memWrite_sp (s : State) (a : Word) (v : Byte) : (s.memWrite a v).sp = s.sp := rfl
@[simp] theorem memWrite_sr (s : State) (a : Word) (v : Byte) : (s.memWrite a v).sr = s.sr := rfl
@[simp] theorem memWrite_cyc (s : State) (a : Word) (v : Byte) : (s.memWrite a v).cyc = s.cyc + 1 := rfl
@[simp] theorem memWrite_mem (s : State) (a : Word) (v : Byte) : (s.memWrite a v).mem = Memory.write s.mem a.toNat v := rfl

@[simp] theorem consume_pc (s : State) : (s.consume).pc = s.pc + 1 := rfl
@[simp] theorem consume_ac (s : State) : (s.consume).ac = s.ac := rfl
@[simp] theorem consume_x (s : State) : (s.consume).x = s.x := rfl
@[simp] theorem consume_y (s : State) : (s.consume).y = s.y := rfl
@[simp] theorem consume_sp (s : State) : (s.consume).sp = s.sp := rfl
@[simp] theorem consume_sr (s : State) : (s.consume).sr = s.sr := rfl
@[simp] theorem consume_cyc (s : State) : (s.consume).cyc = s.cyc + 1 := rfl
@[simp] theorem consume_mem (s : State) : (s.consume).mem = s.mem := rfl

@[simp] theorem push_pc (s : State) (v : Byte) : (s.push v).pc = s.pc := rfl
@[simp] theorem push_ac (s : State) (v : Byte) : (s.push v).ac = s.ac := rfl
@[simp] theorem push_x (s : State) (v : Byte) : (s.push v).x = s.x := rfl
@[simp] theorem push_y (s : State) (v : Byte) : (s.push v).y = s.y := rfl
@[simp] theorem push_sp (s : State) (v : Byte) : (s.push v).sp = s.sp - 1 := rfl
@[simp] theorem push_sr (s : State) (v : Byte) : (s.push v).sr = s.sr := rfl
@[simp] theorem push_cyc (s : State) (v : Byte) : (s.push v).cyc = s.cyc + 1 := rfl
@[simp] theorem push_mem (s : State) (v : Byte) : (s.push v).mem = Memory.write s.mem (stackAddr s.sp).toNat v := rfl

@[simp] theorem pop_state_pc (s : State) : (s.pop.2).pc = s.pc := rfl
@[simp] theorem pop_state_ac (s : State) : (s.pop.2).ac = s.ac := rfl
@[simp] theorem pop_state_x (s : State) : (s.pop.2).x = s.x := rfl
@[simp] theorem pop_state_y (s : State) : (s.pop.2).y = s.y := rfl
@[simp] theorem pop_state_sp (s : State) : (s.pop.2).sp = s.sp + 1 := rfl
@[simp] theorem pop_state_sr (s : State) : (s.pop.2).sr = s.sr := rfl
@[simp] theorem pop_state_cyc (s : State) : (s.pop.2).cyc = s.cyc + 1 := rfl
@[simp] theorem pop_state_mem (s : State) : (s.pop.2).mem = s.mem := rfl

@[simp] theorem fetch_state_pc (s : State) : (s.fetch.2).pc = s.pc + 1 := rfl
@[simp] theorem fetch_state_ac (s : State) : (s.fetch.2).ac = s.ac := rfl
@[simp] theorem fetch_state_x (s : State) : (s.fetch.2).x = s.x := rfl
@[simp] theorem fetch_state_y (s : State) : (s.fetch.2).y = s.y := rfl
@[simp] theorem fetch_state_sp (s : State) : (s.fetch.2).sp = s.sp := rfl
@[simp] theorem fetch_state_sr (s : State) : (s.fetch.2).sr = s.sr := rfl
@[simp] theorem fetch_state_cyc (s : State) : (s.fetch.2).cyc = s.cyc + 1 := rfl
@[simp] theorem fetch_state_mem (s : State) : (s.fetch.2).mem = s.mem := rfl

@[simp] theorem setNZ_pc (s : State) (v : Byte) : (s.setNZ v).pc = s.pc := rfl
@[simp] theorem setNZ_ac (s : State) (v : Byte) : (s.setNZ v).ac = s.ac := rfl
@[simp] theorem setNZ_x (s : State) (v : Byte) : (s.setNZ v).x = s.x := rfl
@[simp] theorem setNZ_y (s : State) (v : Byte) : (s.setNZ v).y = s.y := rfl
@[simp] theorem setNZ_sp (s : State) (v : Byte) : (s.setNZ v).sp = s.sp := rfl
@[simp] theorem setNZ_sr (s : State) (v : Byte) : (s.setNZ v).sr = s.sr.setNZ v := rfl
@[simp] theorem setNZ_cyc (s : State) (v : Byte) : (s.setNZ v).cyc = s.cyc := rfl
@[simp] theorem setNZ_mem (s : State) (v : Byte) : (s.setNZ v).mem = s.mem := rfl

@[simp] theorem memRead_value (s : State) (a : Word) : (s.memRead a).1 = Memory.read s.mem a.toNat := rfl
@[simp] theorem memRead_state (s : State) (a : Word) : (s.memRead a).2 = s.tick 1 := rfl
@[simp] theorem fetch_value (s : State) : s.fetch.1 = Memory.read s.mem s.pc.toNat := rfl
@[simp] theorem pop_value (s : State) : s.pop.1 = Memory.read s.mem (stackAddr (s.sp + 1)).toNat := rfl
@[simp] theorem afterOpcodeFetch_eq (s : State) : s.afterOpcodeFetch = { s with pc := s.pc + 1, cyc := s.cyc + 1 } := rfl

@[simp] theorem flags_setNZ_n (f : Flags) (v : Byte) : (f.setNZ v).n = v.getLsbD 7 := rfl
@[simp] theorem flags_setNZ_v (f : Flags) (v : Byte) : (f.setNZ v).v = f.v := rfl
@[simp] theorem flags_setNZ_b (f : Flags) (v : Byte) : (f.setNZ v).b = f.b := rfl
@[simp] theorem flags_setNZ_d (f : Flags) (v : Byte) : (f.setNZ v).d = f.d := rfl
@[simp] theorem flags_setNZ_i (f : Flags) (v : Byte) : (f.setNZ v).i = f.i := rfl
@[simp] theorem flags_setNZ_z (f : Flags) (v : Byte) : (f.setNZ v).z = (v == 0) := rfl
@[simp] theorem flags_setNZ_c (f : Flags) (v : Byte) : (f.setNZ v).c = f.c := rfl

theorem State.ext_fields {s t : State} (hpc : s.pc = t.pc) (hac : s.ac = t.ac) (hx : s.x = t.x) (hy : s.y = t.y)
    (hsp : s.sp = t.sp) (hsr : s.sr = t.sr) (hcyc : s.cyc = t.cyc) (hmem : s.mem = t.mem) : s = t := by
  cases s; cases t; simp_all

end Sys2Proof.Machine
end

