-- ==== Sys2Proof/Laws/Operands.lean ====
section
/-! SUPPORT. What the shared operations can do, said once: a resolver changes PC and CYC alone (R100); reading
an operand changes nothing more; a store and a read-modify-write write one byte at the resolved address; a
branch changes PC and CYC alone; the trap entry pushes three bytes. Later proofs cite these. -/

namespace Sys2Proof.Machine

/-- Only PC and CYC differ. -/
def pcCycOnly (s t : State) : Prop := ∃ p c, t = { s with pc := p, cyc := c }

theorem pcCycOnly_refl (s : State) : pcCycOnly s s := ⟨s.pc, s.cyc, rfl⟩

theorem pcCycOnly_trans {s t u : State} : pcCycOnly s t → pcCycOnly t u → pcCycOnly s u := by
  rintro ⟨p, c, rfl⟩ ⟨q, d, rfl⟩; exact ⟨q, d, rfl⟩

theorem tick_pcCycOnly (s : State) (n : Nat) : pcCycOnly s (s.tick n) := ⟨_, _, rfl⟩
theorem consume_pcCycOnly (s : State) : pcCycOnly s s.consume := ⟨_, _, rfl⟩

theorem indexCharge_pcCycOnly (s : State) (base ea : Word) (w : Bool) : pcCycOnly s (s.indexCharge base ea w) := by
  unfold State.indexCharge; split
  · exact tick_pcCycOnly s 1
  · exact pcCycOnly_refl s

/-- A resolver changes only PC and CYC (R100). -/
theorem resolve_pcCycOnly (w : Bool) (o : Operand) (s : State) : pcCycOnly s (resolve w o s).2 := by
  cases o with
  | abx a => exact pcCycOnly_trans ⟨_, _, rfl⟩ (indexCharge_pcCycOnly s.consume.consume _ _ w)
  | aby a => exact pcCycOnly_trans ⟨_, _, rfl⟩ (indexCharge_pcCycOnly s.consume.consume _ _ w)
  | izy b => exact pcCycOnly_trans ⟨_, _, rfl⟩ (indexCharge_pcCycOnly ((s.consume.tick 1).tick 1) _ _ w)
  | _ => exact ⟨_, _, rfl⟩

@[simp] theorem resolve_ac (w : Bool) (o : Operand) (s : State) : (resolve w o s).2.ac = s.ac := by
  obtain ⟨p, c, h⟩ := resolve_pcCycOnly w o s; rw [h]
@[simp] theorem resolve_x (w : Bool) (o : Operand) (s : State) : (resolve w o s).2.x = s.x := by
  obtain ⟨p, c, h⟩ := resolve_pcCycOnly w o s; rw [h]
@[simp] theorem resolve_y (w : Bool) (o : Operand) (s : State) : (resolve w o s).2.y = s.y := by
  obtain ⟨p, c, h⟩ := resolve_pcCycOnly w o s; rw [h]
@[simp] theorem resolve_sp (w : Bool) (o : Operand) (s : State) : (resolve w o s).2.sp = s.sp := by
  obtain ⟨p, c, h⟩ := resolve_pcCycOnly w o s; rw [h]
@[simp] theorem resolve_sr (w : Bool) (o : Operand) (s : State) : (resolve w o s).2.sr = s.sr := by
  obtain ⟨p, c, h⟩ := resolve_pcCycOnly w o s; rw [h]
@[simp] theorem resolve_mem (w : Bool) (o : Operand) (s : State) : (resolve w o s).2.mem = s.mem := by
  obtain ⟨p, c, h⟩ := resolve_pcCycOnly w o s; rw [h]

/-- Whether the caller writes changes the charge, never the address (R107). -/
theorem resolve_address_write (o : Operand) (s : State) : (resolve true o s).1 = (resolve false o s).1 := by
  cases o <;> rfl

theorem readOperand_state (o : Operand) (s : State) : (readOperand o s).2 = (resolve false o s).2.tick 1 := by
  cases o <;> rfl

theorem readOperand_value (o : Operand) (s : State) :
    (readOperand o s).1 = (match o with | .imm v => v | _ => Memory.read s.mem (resolve false o s).1.toNat) := by
  cases o <;> simp [readOperand]

theorem readOperand_pcCycOnly (o : Operand) (s : State) : pcCycOnly s (readOperand o s).2 := by
  rw [readOperand_state]; exact pcCycOnly_trans (resolve_pcCycOnly false o s) (tick_pcCycOnly _ 1)

@[simp] theorem readOperand_ac (o : Operand) (s : State) : (readOperand o s).2.ac = s.ac := by simp [readOperand_state]
@[simp] theorem readOperand_x (o : Operand) (s : State) : (readOperand o s).2.x = s.x := by simp [readOperand_state]
@[simp] theorem readOperand_y (o : Operand) (s : State) : (readOperand o s).2.y = s.y := by simp [readOperand_state]
@[simp] theorem readOperand_sp (o : Operand) (s : State) : (readOperand o s).2.sp = s.sp := by simp [readOperand_state]
@[simp] theorem readOperand_sr (o : Operand) (s : State) : (readOperand o s).2.sr = s.sr := by simp [readOperand_state]
@[simp] theorem readOperand_mem (o : Operand) (s : State) : (readOperand o s).2.mem = s.mem := by simp [readOperand_state]

/-- A store writes one byte at the resolved address and changes nothing else but PC and CYC. -/
theorem storeOperand_eq (o : Operand) (v : Byte) (s : State) :
    storeOperand o v s = { s with
      pc := (resolve true o s).2.pc
      cyc := (resolve true o s).2.cyc + 1
      mem := Memory.write s.mem (resolve true o s).1.toNat v } := by
  apply State.ext_fields <;> simp [storeOperand]

/-- A read-modify-write writes one byte at the resolved address and the flags of the modify. -/
theorem rmwMem_eq (f : Modify) (o : Operand) (s : State) :
    rmwMem f o s = { s with
      pc := (resolve true o s).2.pc
      cyc := (resolve true o s).2.cyc + 3
      sr := s.sr.afterModify (f (Memory.read s.mem (resolve true o s).1.toNat) s.sr.c).1
              (f (Memory.read s.mem (resolve true o s).1.toNat) s.sr.c).2
      mem := Memory.write s.mem (resolve true o s).1.toNat
              (f (Memory.read s.mem (resolve true o s).1.toNat) s.sr.c).1 } := by
  apply State.ext_fields <;> simp [rmwMem]

/-- A branch changes only PC and CYC (R112). -/
theorem branch_pcCycOnly (taken : Bool) (d : Byte) (s : State) : pcCycOnly s (branch taken d s) := by
  simp only [branch]
  split
  · split <;> exact ⟨_, _, rfl⟩
  · exact ⟨_, _, rfl⟩

/-- A stack location, as a number: 256 plus SP. -/
theorem stackAddr_toNat (sp : Byte) : (stackAddr sp).toNat = 256 + sp.toNat := by
  have := sp.isLt
  simp [stackAddr, zext16, BitVec.toNat_add]
  omega

/-- A push leaves every cell outside page 1 alone. -/
theorem read_push_other (s : State) (v : Byte) {n : Nat} (h : 512 ≤ n) :
    Memory.read (s.push v).mem n = Memory.read s.mem n := by
  rw [push_mem, Memory.read_write_other]
  rw [stackAddr_toNat]; have := s.sp.isLt; omega

/-- The trap entry (R214), field by field. The vector lies outside the stack page, so the pushes leave it. -/
theorem trapEntry_eq (s : State) :
    s.trapEntry = { s with
      pc := join (Memory.read s.mem 0xFFFF) (Memory.read s.mem 0xFFFE)
      sp := s.sp - 1 - 1 - 1
      sr := { s.sr with b := true }
      cyc := s.cyc + 6
      mem := Memory.write (Memory.write (Memory.write s.mem (stackAddr s.sp).toNat (hi s.pc))
              (stackAddr (s.sp - 1)).toNat (lo s.pc)) (stackAddr (s.sp - 1 - 1)).toNat
              (Flags.flatten { s.sr with b := true }) } := by
  have hv : ∀ n, 512 ≤ n → Memory.read s.trapEntry.mem n = Memory.read s.mem n := by
    intro n h
    simp only [State.trapEntry, memRead_state, tick_mem, read_push_other _ _ h]
  have h := (⟨hv 0xFFFF (by decide), hv 0xFFFE (by decide)⟩ : _ ∧ _)
  rw [← h.1, ← h.2]
  apply State.ext_fields <;> simp [State.trapEntry, brkVector]

/-- The trap return (R215), field by field. -/
theorem trapReturn_eq (s : State) :
    s.trapReturn = { s with
      pc := join (Memory.read s.mem (stackAddr (s.sp + 1 + 1 + 1)).toNat) (Memory.read s.mem (stackAddr (s.sp + 1 + 1)).toNat)
      sp := s.sp + 1 + 1 + 1
      sr := Flags.unflatten (Memory.read s.mem (stackAddr (s.sp + 1)).toNat)
      cyc := s.cyc + 5 } := by
  apply State.ext_fields <;> simp [State.trapReturn]

end Sys2Proof.Machine
end

