-- ==== Sys2Proof/Laws/Exec.lean ====
section
/-! SUPPORT. What `exec` answers for each instruction, as the next state its meaning gives, and one spec lemma
per meaning: every field of the state after it, the resolved address, PC and cycles left to `resolve`. Proofs
over all instructions split by constructor and rewrite with these. -/

namespace Sys2Proof.Machine

/-! The spec lemma of each shared meaning. -/

theorem lda_eq (o : Operand) (s : State) : lda o s = { s with
      pc := (resolve false o s).2.pc
      cyc := (resolve false o s).2.cyc + 1
      ac := (readOperand o s).1
      sr := s.sr.setNZ (readOperand o s).1 } := by
  apply State.ext_fields <;> simp [lda, State.setNZ, readOperand_state]

theorem ldx_eq (o : Operand) (s : State) : ldx o s = { s with
      pc := (resolve false o s).2.pc
      cyc := (resolve false o s).2.cyc + 1
      x := (readOperand o s).1
      sr := s.sr.setNZ (readOperand o s).1 } := by
  apply State.ext_fields <;> simp [ldx, State.setNZ, readOperand_state]

theorem ldy_eq (o : Operand) (s : State) : ldy o s = { s with
      pc := (resolve false o s).2.pc
      cyc := (resolve false o s).2.cyc + 1
      y := (readOperand o s).1
      sr := s.sr.setNZ (readOperand o s).1 } := by
  apply State.ext_fields <;> simp [ldy, State.setNZ, readOperand_state]

theorem sta_eq (o : Operand) (s : State) : sta o s = { s with
      pc := (resolve true o s).2.pc
      cyc := (resolve true o s).2.cyc + 1
      mem := Memory.write s.mem (resolve true o s).1.toNat s.ac } := by
  exact storeOperand_eq o s.ac s

theorem stx_eq (o : Operand) (s : State) : stx o s = { s with
      pc := (resolve true o s).2.pc
      cyc := (resolve true o s).2.cyc + 1
      mem := Memory.write s.mem (resolve true o s).1.toNat s.x } := by
  exact storeOperand_eq o s.x s

theorem sty_eq (o : Operand) (s : State) : sty o s = { s with
      pc := (resolve true o s).2.pc
      cyc := (resolve true o s).2.cyc + 1
      mem := Memory.write s.mem (resolve true o s).1.toNat s.y } := by
  exact storeOperand_eq o s.y s

theorem adc_eq (o : Operand) (s : State) : adc o s = { s with
      pc := (resolve false o s).2.pc
      cyc := (resolve false o s).2.cyc + 1
      ac := (addWithCarry s.ac (readOperand o s).1 s.sr.c).r
      sr := Flags.setNZ { s.sr with
        v := (addWithCarry s.ac (readOperand o s).1 s.sr.c).v
        c := (addWithCarry s.ac (readOperand o s).1 s.sr.c).c } (addWithCarry s.ac (readOperand o s).1 s.sr.c).r } := by
  apply State.ext_fields <;> simp [adc, State.setNZ, readOperand_state]

theorem sbc_eq (o : Operand) (s : State) : sbc o s = { s with
      pc := (resolve false o s).2.pc
      cyc := (resolve false o s).2.cyc + 1
      ac := (subWithBorrow s.ac (readOperand o s).1 s.sr.c).r
      sr := Flags.setNZ { s.sr with
        v := (subWithBorrow s.ac (readOperand o s).1 s.sr.c).v
        c := (subWithBorrow s.ac (readOperand o s).1 s.sr.c).c } (subWithBorrow s.ac (readOperand o s).1 s.sr.c).r } := by
  apply State.ext_fields <;> simp [sbc, State.setNZ, readOperand_state]

theorem cmp_eq (o : Operand) (s : State) : cmp o s = { s with
      pc := (resolve false o s).2.pc
      cyc := (resolve false o s).2.cyc + 1
      sr := s.sr.compare s.ac (readOperand o s).1 } := by
  apply State.ext_fields <;> simp [cmp, readOperand_state]

theorem cpx_eq (o : Operand) (s : State) : cpx o s = { s with
      pc := (resolve false o s).2.pc
      cyc := (resolve false o s).2.cyc + 1
      sr := s.sr.compare s.x (readOperand o s).1 } := by
  apply State.ext_fields <;> simp [cpx, readOperand_state]

theorem cpy_eq (o : Operand) (s : State) : cpy o s = { s with
      pc := (resolve false o s).2.pc
      cyc := (resolve false o s).2.cyc + 1
      sr := s.sr.compare s.y (readOperand o s).1 } := by
  apply State.ext_fields <;> simp [cpy, readOperand_state]

theorem andAc_eq (o : Operand) (s : State) : andAc o s = { s with
      pc := (resolve false o s).2.pc
      cyc := (resolve false o s).2.cyc + 1
      ac := s.ac &&& (readOperand o s).1
      sr := s.sr.setNZ (s.ac &&& (readOperand o s).1) } := by
  apply State.ext_fields <;> simp [andAc, State.setNZ, readOperand_state]

theorem oraAc_eq (o : Operand) (s : State) : oraAc o s = { s with
      pc := (resolve false o s).2.pc
      cyc := (resolve false o s).2.cyc + 1
      ac := s.ac ||| (readOperand o s).1
      sr := s.sr.setNZ (s.ac ||| (readOperand o s).1) } := by
  apply State.ext_fields <;> simp [oraAc, State.setNZ, readOperand_state]

theorem eorAc_eq (o : Operand) (s : State) : eorAc o s = { s with
      pc := (resolve false o s).2.pc
      cyc := (resolve false o s).2.cyc + 1
      ac := s.ac ^^^ (readOperand o s).1
      sr := s.sr.setNZ (s.ac ^^^ (readOperand o s).1) } := by
  apply State.ext_fields <;> simp [eorAc, State.setNZ, readOperand_state]

theorem bitTestAc_eq (o : Operand) (s : State) : bitTestAc o s = { s with
      pc := (resolve false o s).2.pc
      cyc := (resolve false o s).2.cyc + 1
      sr := s.sr.bitTest s.ac (readOperand o s).1 } := by
  apply State.ext_fields <;> simp [bitTestAc, readOperand_state]

theorem jmp_eq (o : Operand) (s : State) : jmp o s = { s with
      pc := (resolve false o s).1
      cyc := (resolve false o s).2.cyc } := by
  apply State.ext_fields <;> simp [jmp]

theorem tax_eq (s : State) : tax s = { s with
      cyc := s.cyc + 1
      x := s.ac
      sr := s.sr.setNZ s.ac } := by
  rfl

theorem tay_eq (s : State) : tay s = { s with
      cyc := s.cyc + 1
      y := s.ac
      sr := s.sr.setNZ s.ac } := by
  rfl

theorem txa_eq (s : State) : txa s = { s with
      cyc := s.cyc + 1
      ac := s.x
      sr := s.sr.setNZ s.x } := by
  rfl

theorem tya_eq (s : State) : tya s = { s with
      cyc := s.cyc + 1
      ac := s.y
      sr := s.sr.setNZ s.y } := by
  rfl

theorem tsx_eq (s : State) : tsx s = { s with
      cyc := s.cyc + 1
      x := s.sp
      sr := s.sr.setNZ s.sp } := by
  rfl

theorem txs_eq (s : State) : txs s = { s with
      cyc := s.cyc + 1
      sp := s.x } := by
  rfl

theorem inx_eq (s : State) : inx s = { s with
      cyc := s.cyc + 1
      x := s.x + 1
      sr := s.sr.setNZ (s.x + 1) } := by
  rfl

theorem iny_eq (s : State) : iny s = { s with
      cyc := s.cyc + 1
      y := s.y + 1
      sr := s.sr.setNZ (s.y + 1) } := by
  rfl

theorem dex_eq (s : State) : dex s = { s with
      cyc := s.cyc + 1
      x := s.x - 1
      sr := s.sr.setNZ (s.x - 1) } := by
  rfl

theorem dey_eq (s : State) : dey s = { s with
      cyc := s.cyc + 1
      y := s.y - 1
      sr := s.sr.setNZ (s.y - 1) } := by
  rfl

theorem clc_eq (s : State) : clc s = { s with
      cyc := s.cyc + 1
      sr := { s.sr with c := false } } := by
  rfl

theorem cld_eq (s : State) : cld s = { s with
      cyc := s.cyc + 1
      sr := { s.sr with d := false } } := by
  rfl

theorem cli_eq (s : State) : cli s = { s with
      cyc := s.cyc + 1
      sr := { s.sr with i := false } } := by
  rfl

theorem clv_eq (s : State) : clv s = { s with
      cyc := s.cyc + 1
      sr := { s.sr with v := false } } := by
  rfl

theorem sec_eq (s : State) : sec s = { s with
      cyc := s.cyc + 1
      sr := { s.sr with c := true } } := by
  rfl

theorem sed_eq (s : State) : sed s = { s with
      cyc := s.cyc + 1
      sr := { s.sr with d := true } } := by
  rfl

theorem sei_eq (s : State) : sei s = { s with
      cyc := s.cyc + 1
      sr := { s.sr with i := true } } := by
  rfl

theorem rmwAcc_eq (f : Modify) (s : State) : rmwAcc f s = { s with
      cyc := s.cyc + 1
      ac := (f s.ac s.sr.c).1
      sr := s.sr.afterModify (f s.ac s.sr.c).1 (f s.ac s.sr.c).2 } := by
  rfl

theorem jsr_eq (target : Word) (s : State) : jsr target s = { s with
      pc := target
      sp := s.sp - 1 - 1
      cyc := s.cyc + 5
      mem := Memory.write (Memory.write s.mem (stackAddr s.sp).toNat (hi (s.pc + 1))) (stackAddr (s.sp - 1)).toNat
              (lo (s.pc + 1)) } := by
  apply State.ext_fields <;> simp [jsr]

theorem rts_eq (s : State) : rts s = { s with
      pc := join (Memory.read s.mem (stackAddr (s.sp + 1 + 1)).toNat) (Memory.read s.mem (stackAddr (s.sp + 1)).toNat) + 1
      sp := s.sp + 1 + 1
      cyc := s.cyc + 5 } := by
  rfl

theorem pha_eq (s : State) : pha s = { s with
      sp := s.sp - 1
      cyc := s.cyc + 2
      mem := Memory.write s.mem (stackAddr s.sp).toNat s.ac } := by
  rfl

theorem php_eq (s : State) : php s = { s with
      sp := s.sp - 1
      cyc := s.cyc + 2
      mem := Memory.write s.mem (stackAddr s.sp).toNat s.sr.flatten } := by
  rfl

theorem pla_eq (s : State) : pla s = { s with
      sp := s.sp + 1
      cyc := s.cyc + 3
      ac := Memory.read s.mem (stackAddr (s.sp + 1)).toNat
      sr := s.sr.setNZ (Memory.read s.mem (stackAddr (s.sp + 1)).toNat) } := by
  rfl

theorem plp_eq (s : State) : plp s = { s with
      sp := s.sp + 1
      cyc := s.cyc + 3
      sr := Flags.unflatten (Memory.read s.mem (stackAddr (s.sp + 1)).toNat) } := by
  rfl

/-! `exec`, instruction by instruction. -/

@[simp] theorem exec_ldaImm (imm8 : Byte) (s : State) :
    exec (.ldaImm imm8) s = .next (lda (.imm imm8) s) := rfl
@[simp] theorem exec_ldaZp (zp8 : Byte) (s : State) :
    exec (.ldaZp zp8) s = .next (lda (.zp zp8) s) := rfl
@[simp] theorem exec_ldaZpx (zp8 : Byte) (s : State) :
    exec (.ldaZpx zp8) s = .next (lda (.zpx zp8) s) := rfl
@[simp] theorem exec_ldaAbs (addr : Word) (s : State) :
    exec (.ldaAbs addr) s = .next (lda (.abs addr) s) := rfl
@[simp] theorem exec_ldaAbx (base : Word) (s : State) :
    exec (.ldaAbx base) s = .next (lda (.abx base) s) := rfl
@[simp] theorem exec_ldaAby (base : Word) (s : State) :
    exec (.ldaAby base) s = .next (lda (.aby base) s) := rfl
@[simp] theorem exec_ldaIzx (zp8 : Byte) (s : State) :
    exec (.ldaIzx zp8) s = .next (lda (.izx zp8) s) := rfl
@[simp] theorem exec_ldaIzy (zp8 : Byte) (s : State) :
    exec (.ldaIzy zp8) s = .next (lda (.izy zp8) s) := rfl
@[simp] theorem exec_ldxImm (imm8 : Byte) (s : State) :
    exec (.ldxImm imm8) s = .next (ldx (.imm imm8) s) := rfl
@[simp] theorem exec_ldxZp (zp8 : Byte) (s : State) :
    exec (.ldxZp zp8) s = .next (ldx (.zp zp8) s) := rfl
@[simp] theorem exec_ldxZpy (zp8 : Byte) (s : State) :
    exec (.ldxZpy zp8) s = .next (ldx (.zpy zp8) s) := rfl
@[simp] theorem exec_ldxAbs (addr : Word) (s : State) :
    exec (.ldxAbs addr) s = .next (ldx (.abs addr) s) := rfl
@[simp] theorem exec_ldxAby (base : Word) (s : State) :
    exec (.ldxAby base) s = .next (ldx (.aby base) s) := rfl
@[simp] theorem exec_ldyImm (imm8 : Byte) (s : State) :
    exec (.ldyImm imm8) s = .next (ldy (.imm imm8) s) := rfl
@[simp] theorem exec_ldyZp (zp8 : Byte) (s : State) :
    exec (.ldyZp zp8) s = .next (ldy (.zp zp8) s) := rfl
@[simp] theorem exec_ldyZpx (zp8 : Byte) (s : State) :
    exec (.ldyZpx zp8) s = .next (ldy (.zpx zp8) s) := rfl
@[simp] theorem exec_ldyAbs (addr : Word) (s : State) :
    exec (.ldyAbs addr) s = .next (ldy (.abs addr) s) := rfl
@[simp] theorem exec_ldyAbx (base : Word) (s : State) :
    exec (.ldyAbx base) s = .next (ldy (.abx base) s) := rfl
@[simp] theorem exec_staZp (zp8 : Byte) (s : State) :
    exec (.staZp zp8) s = .next (sta (.zp zp8) s) := rfl
@[simp] theorem exec_staZpx (zp8 : Byte) (s : State) :
    exec (.staZpx zp8) s = .next (sta (.zpx zp8) s) := rfl
@[simp] theorem exec_staAbs (addr : Word) (s : State) :
    exec (.staAbs addr) s = .next (sta (.abs addr) s) := rfl
@[simp] theorem exec_staAbx (base : Word) (s : State) :
    exec (.staAbx base) s = .next (sta (.abx base) s) := rfl
@[simp] theorem exec_staAby (base : Word) (s : State) :
    exec (.staAby base) s = .next (sta (.aby base) s) := rfl
@[simp] theorem exec_staIzx (zp8 : Byte) (s : State) :
    exec (.staIzx zp8) s = .next (sta (.izx zp8) s) := rfl
@[simp] theorem exec_staIzy (zp8 : Byte) (s : State) :
    exec (.staIzy zp8) s = .next (sta (.izy zp8) s) := rfl
@[simp] theorem exec_stxZp (zp8 : Byte) (s : State) :
    exec (.stxZp zp8) s = .next (stx (.zp zp8) s) := rfl
@[simp] theorem exec_stxZpy (zp8 : Byte) (s : State) :
    exec (.stxZpy zp8) s = .next (stx (.zpy zp8) s) := rfl
@[simp] theorem exec_stxAbs (addr : Word) (s : State) :
    exec (.stxAbs addr) s = .next (stx (.abs addr) s) := rfl
@[simp] theorem exec_styZp (zp8 : Byte) (s : State) :
    exec (.styZp zp8) s = .next (sty (.zp zp8) s) := rfl
@[simp] theorem exec_styZpx (zp8 : Byte) (s : State) :
    exec (.styZpx zp8) s = .next (sty (.zpx zp8) s) := rfl
@[simp] theorem exec_styAbs (addr : Word) (s : State) :
    exec (.styAbs addr) s = .next (sty (.abs addr) s) := rfl
@[simp] theorem exec_tax (s : State) :
    exec .tax s = .next (tax s) := rfl
@[simp] theorem exec_tay (s : State) :
    exec .tay s = .next (tay s) := rfl
@[simp] theorem exec_txa (s : State) :
    exec .txa s = .next (txa s) := rfl
@[simp] theorem exec_tya (s : State) :
    exec .tya s = .next (tya s) := rfl
@[simp] theorem exec_tsx (s : State) :
    exec .tsx s = .next (tsx s) := rfl
@[simp] theorem exec_txs (s : State) :
    exec .txs s = .next (txs s) := rfl
@[simp] theorem exec_adcImm (imm8 : Byte) (s : State) :
    exec (.adcImm imm8) s = .next (adc (.imm imm8) s) := rfl
@[simp] theorem exec_adcZp (zp8 : Byte) (s : State) :
    exec (.adcZp zp8) s = .next (adc (.zp zp8) s) := rfl
@[simp] theorem exec_adcZpx (zp8 : Byte) (s : State) :
    exec (.adcZpx zp8) s = .next (adc (.zpx zp8) s) := rfl
@[simp] theorem exec_adcAbs (addr : Word) (s : State) :
    exec (.adcAbs addr) s = .next (adc (.abs addr) s) := rfl
@[simp] theorem exec_adcAbx (base : Word) (s : State) :
    exec (.adcAbx base) s = .next (adc (.abx base) s) := rfl
@[simp] theorem exec_adcAby (base : Word) (s : State) :
    exec (.adcAby base) s = .next (adc (.aby base) s) := rfl
@[simp] theorem exec_adcIzx (zp8 : Byte) (s : State) :
    exec (.adcIzx zp8) s = .next (adc (.izx zp8) s) := rfl
@[simp] theorem exec_adcIzy (zp8 : Byte) (s : State) :
    exec (.adcIzy zp8) s = .next (adc (.izy zp8) s) := rfl
@[simp] theorem exec_sbcImm (imm8 : Byte) (s : State) :
    exec (.sbcImm imm8) s = .next (sbc (.imm imm8) s) := rfl
@[simp] theorem exec_sbcZp (zp8 : Byte) (s : State) :
    exec (.sbcZp zp8) s = .next (sbc (.zp zp8) s) := rfl
@[simp] theorem exec_sbcZpx (zp8 : Byte) (s : State) :
    exec (.sbcZpx zp8) s = .next (sbc (.zpx zp8) s) := rfl
@[simp] theorem exec_sbcAbs (addr : Word) (s : State) :
    exec (.sbcAbs addr) s = .next (sbc (.abs addr) s) := rfl
@[simp] theorem exec_sbcAbx (base : Word) (s : State) :
    exec (.sbcAbx base) s = .next (sbc (.abx base) s) := rfl
@[simp] theorem exec_sbcAby (base : Word) (s : State) :
    exec (.sbcAby base) s = .next (sbc (.aby base) s) := rfl
@[simp] theorem exec_sbcIzx (zp8 : Byte) (s : State) :
    exec (.sbcIzx zp8) s = .next (sbc (.izx zp8) s) := rfl
@[simp] theorem exec_sbcIzy (zp8 : Byte) (s : State) :
    exec (.sbcIzy zp8) s = .next (sbc (.izy zp8) s) := rfl
@[simp] theorem exec_cmpImm (imm8 : Byte) (s : State) :
    exec (.cmpImm imm8) s = .next (cmp (.imm imm8) s) := rfl
@[simp] theorem exec_cmpZp (zp8 : Byte) (s : State) :
    exec (.cmpZp zp8) s = .next (cmp (.zp zp8) s) := rfl
@[simp] theorem exec_cmpZpx (zp8 : Byte) (s : State) :
    exec (.cmpZpx zp8) s = .next (cmp (.zpx zp8) s) := rfl
@[simp] theorem exec_cmpAbs (addr : Word) (s : State) :
    exec (.cmpAbs addr) s = .next (cmp (.abs addr) s) := rfl
@[simp] theorem exec_cmpAbx (base : Word) (s : State) :
    exec (.cmpAbx base) s = .next (cmp (.abx base) s) := rfl
@[simp] theorem exec_cmpAby (base : Word) (s : State) :
    exec (.cmpAby base) s = .next (cmp (.aby base) s) := rfl
@[simp] theorem exec_cmpIzx (zp8 : Byte) (s : State) :
    exec (.cmpIzx zp8) s = .next (cmp (.izx zp8) s) := rfl
@[simp] theorem exec_cmpIzy (zp8 : Byte) (s : State) :
    exec (.cmpIzy zp8) s = .next (cmp (.izy zp8) s) := rfl
@[simp] theorem exec_cpxImm (imm8 : Byte) (s : State) :
    exec (.cpxImm imm8) s = .next (cpx (.imm imm8) s) := rfl
@[simp] theorem exec_cpxZp (zp8 : Byte) (s : State) :
    exec (.cpxZp zp8) s = .next (cpx (.zp zp8) s) := rfl
@[simp] theorem exec_cpxAbs (addr : Word) (s : State) :
    exec (.cpxAbs addr) s = .next (cpx (.abs addr) s) := rfl
@[simp] theorem exec_cpyImm (imm8 : Byte) (s : State) :
    exec (.cpyImm imm8) s = .next (cpy (.imm imm8) s) := rfl
@[simp] theorem exec_cpyZp (zp8 : Byte) (s : State) :
    exec (.cpyZp zp8) s = .next (cpy (.zp zp8) s) := rfl
@[simp] theorem exec_cpyAbs (addr : Word) (s : State) :
    exec (.cpyAbs addr) s = .next (cpy (.abs addr) s) := rfl
@[simp] theorem exec_andImm (imm8 : Byte) (s : State) :
    exec (.andImm imm8) s = .next (andAc (.imm imm8) s) := rfl
@[simp] theorem exec_andZp (zp8 : Byte) (s : State) :
    exec (.andZp zp8) s = .next (andAc (.zp zp8) s) := rfl
@[simp] theorem exec_andZpx (zp8 : Byte) (s : State) :
    exec (.andZpx zp8) s = .next (andAc (.zpx zp8) s) := rfl
@[simp] theorem exec_andAbs (addr : Word) (s : State) :
    exec (.andAbs addr) s = .next (andAc (.abs addr) s) := rfl
@[simp] theorem exec_andAbx (base : Word) (s : State) :
    exec (.andAbx base) s = .next (andAc (.abx base) s) := rfl
@[simp] theorem exec_andAby (base : Word) (s : State) :
    exec (.andAby base) s = .next (andAc (.aby base) s) := rfl
@[simp] theorem exec_andIzx (zp8 : Byte) (s : State) :
    exec (.andIzx zp8) s = .next (andAc (.izx zp8) s) := rfl
@[simp] theorem exec_andIzy (zp8 : Byte) (s : State) :
    exec (.andIzy zp8) s = .next (andAc (.izy zp8) s) := rfl
@[simp] theorem exec_oraImm (imm8 : Byte) (s : State) :
    exec (.oraImm imm8) s = .next (oraAc (.imm imm8) s) := rfl
@[simp] theorem exec_oraZp (zp8 : Byte) (s : State) :
    exec (.oraZp zp8) s = .next (oraAc (.zp zp8) s) := rfl
@[simp] theorem exec_oraZpx (zp8 : Byte) (s : State) :
    exec (.oraZpx zp8) s = .next (oraAc (.zpx zp8) s) := rfl
@[simp] theorem exec_oraAbs (addr : Word) (s : State) :
    exec (.oraAbs addr) s = .next (oraAc (.abs addr) s) := rfl
@[simp] theorem exec_oraAbx (base : Word) (s : State) :
    exec (.oraAbx base) s = .next (oraAc (.abx base) s) := rfl
@[simp] theorem exec_oraAby (base : Word) (s : State) :
    exec (.oraAby base) s = .next (oraAc (.aby base) s) := rfl
@[simp] theorem exec_oraIzx (zp8 : Byte) (s : State) :
    exec (.oraIzx zp8) s = .next (oraAc (.izx zp8) s) := rfl
@[simp] theorem exec_oraIzy (zp8 : Byte) (s : State) :
    exec (.oraIzy zp8) s = .next (oraAc (.izy zp8) s) := rfl
@[simp] theorem exec_eorImm (imm8 : Byte) (s : State) :
    exec (.eorImm imm8) s = .next (eorAc (.imm imm8) s) := rfl
@[simp] theorem exec_eorZp (zp8 : Byte) (s : State) :
    exec (.eorZp zp8) s = .next (eorAc (.zp zp8) s) := rfl
@[simp] theorem exec_eorZpx (zp8 : Byte) (s : State) :
    exec (.eorZpx zp8) s = .next (eorAc (.zpx zp8) s) := rfl
@[simp] theorem exec_eorAbs (addr : Word) (s : State) :
    exec (.eorAbs addr) s = .next (eorAc (.abs addr) s) := rfl
@[simp] theorem exec_eorAbx (base : Word) (s : State) :
    exec (.eorAbx base) s = .next (eorAc (.abx base) s) := rfl
@[simp] theorem exec_eorAby (base : Word) (s : State) :
    exec (.eorAby base) s = .next (eorAc (.aby base) s) := rfl
@[simp] theorem exec_eorIzx (zp8 : Byte) (s : State) :
    exec (.eorIzx zp8) s = .next (eorAc (.izx zp8) s) := rfl
@[simp] theorem exec_eorIzy (zp8 : Byte) (s : State) :
    exec (.eorIzy zp8) s = .next (eorAc (.izy zp8) s) := rfl
@[simp] theorem exec_bitZp (zp8 : Byte) (s : State) :
    exec (.bitZp zp8) s = .next (bitTestAc (.zp zp8) s) := rfl
@[simp] theorem exec_bitAbs (addr : Word) (s : State) :
    exec (.bitAbs addr) s = .next (bitTestAc (.abs addr) s) := rfl
@[simp] theorem exec_aslAcc (s : State) :
    exec .aslAcc s = .next (rmwAcc modifyAsl s) := rfl
@[simp] theorem exec_aslZp (zp8 : Byte) (s : State) :
    exec (.aslZp zp8) s = .next (rmwMem modifyAsl (.zp zp8) s) := rfl
@[simp] theorem exec_aslZpx (zp8 : Byte) (s : State) :
    exec (.aslZpx zp8) s = .next (rmwMem modifyAsl (.zpx zp8) s) := rfl
@[simp] theorem exec_aslAbs (addr : Word) (s : State) :
    exec (.aslAbs addr) s = .next (rmwMem modifyAsl (.abs addr) s) := rfl
@[simp] theorem exec_aslAbx (base : Word) (s : State) :
    exec (.aslAbx base) s = .next (rmwMem modifyAsl (.abx base) s) := rfl
@[simp] theorem exec_lsrAcc (s : State) :
    exec .lsrAcc s = .next (rmwAcc modifyLsr s) := rfl
@[simp] theorem exec_lsrZp (zp8 : Byte) (s : State) :
    exec (.lsrZp zp8) s = .next (rmwMem modifyLsr (.zp zp8) s) := rfl
@[simp] theorem exec_lsrZpx (zp8 : Byte) (s : State) :
    exec (.lsrZpx zp8) s = .next (rmwMem modifyLsr (.zpx zp8) s) := rfl
@[simp] theorem exec_lsrAbs (addr : Word) (s : State) :
    exec (.lsrAbs addr) s = .next (rmwMem modifyLsr (.abs addr) s) := rfl
@[simp] theorem exec_lsrAbx (base : Word) (s : State) :
    exec (.lsrAbx base) s = .next (rmwMem modifyLsr (.abx base) s) := rfl
@[simp] theorem exec_rolAcc (s : State) :
    exec .rolAcc s = .next (rmwAcc modifyRol s) := rfl
@[simp] theorem exec_rolZp (zp8 : Byte) (s : State) :
    exec (.rolZp zp8) s = .next (rmwMem modifyRol (.zp zp8) s) := rfl
@[simp] theorem exec_rolZpx (zp8 : Byte) (s : State) :
    exec (.rolZpx zp8) s = .next (rmwMem modifyRol (.zpx zp8) s) := rfl
@[simp] theorem exec_rolAbs (addr : Word) (s : State) :
    exec (.rolAbs addr) s = .next (rmwMem modifyRol (.abs addr) s) := rfl
@[simp] theorem exec_rolAbx (base : Word) (s : State) :
    exec (.rolAbx base) s = .next (rmwMem modifyRol (.abx base) s) := rfl
@[simp] theorem exec_rorAcc (s : State) :
    exec .rorAcc s = .next (rmwAcc modifyRor s) := rfl
@[simp] theorem exec_rorZp (zp8 : Byte) (s : State) :
    exec (.rorZp zp8) s = .next (rmwMem modifyRor (.zp zp8) s) := rfl
@[simp] theorem exec_rorZpx (zp8 : Byte) (s : State) :
    exec (.rorZpx zp8) s = .next (rmwMem modifyRor (.zpx zp8) s) := rfl
@[simp] theorem exec_rorAbs (addr : Word) (s : State) :
    exec (.rorAbs addr) s = .next (rmwMem modifyRor (.abs addr) s) := rfl
@[simp] theorem exec_rorAbx (base : Word) (s : State) :
    exec (.rorAbx base) s = .next (rmwMem modifyRor (.abx base) s) := rfl
@[simp] theorem exec_incZp (zp8 : Byte) (s : State) :
    exec (.incZp zp8) s = .next (rmwMem modifyInc (.zp zp8) s) := rfl
@[simp] theorem exec_incZpx (zp8 : Byte) (s : State) :
    exec (.incZpx zp8) s = .next (rmwMem modifyInc (.zpx zp8) s) := rfl
@[simp] theorem exec_incAbs (addr : Word) (s : State) :
    exec (.incAbs addr) s = .next (rmwMem modifyInc (.abs addr) s) := rfl
@[simp] theorem exec_incAbx (base : Word) (s : State) :
    exec (.incAbx base) s = .next (rmwMem modifyInc (.abx base) s) := rfl
@[simp] theorem exec_decZp (zp8 : Byte) (s : State) :
    exec (.decZp zp8) s = .next (rmwMem modifyDec (.zp zp8) s) := rfl
@[simp] theorem exec_decZpx (zp8 : Byte) (s : State) :
    exec (.decZpx zp8) s = .next (rmwMem modifyDec (.zpx zp8) s) := rfl
@[simp] theorem exec_decAbs (addr : Word) (s : State) :
    exec (.decAbs addr) s = .next (rmwMem modifyDec (.abs addr) s) := rfl
@[simp] theorem exec_decAbx (base : Word) (s : State) :
    exec (.decAbx base) s = .next (rmwMem modifyDec (.abx base) s) := rfl
@[simp] theorem exec_inx (s : State) :
    exec .inx s = .next (inx s) := rfl
@[simp] theorem exec_iny (s : State) :
    exec .iny s = .next (iny s) := rfl
@[simp] theorem exec_dex (s : State) :
    exec .dex s = .next (dex s) := rfl
@[simp] theorem exec_dey (s : State) :
    exec .dey s = .next (dey s) := rfl
@[simp] theorem exec_clc (s : State) :
    exec .clc s = .next (clc s) := rfl
@[simp] theorem exec_cld (s : State) :
    exec .cld s = .next (cld s) := rfl
@[simp] theorem exec_cli (s : State) :
    exec .cli s = .next (cli s) := rfl
@[simp] theorem exec_clv (s : State) :
    exec .clv s = .next (clv s) := rfl
@[simp] theorem exec_sec (s : State) :
    exec .sec s = .next (sec s) := rfl
@[simp] theorem exec_sed (s : State) :
    exec .sed s = .next (sed s) := rfl
@[simp] theorem exec_sei (s : State) :
    exec .sei s = .next (sei s) := rfl
@[simp] theorem exec_nop (s : State) :
    exec .nop s = .next (s.tick 1) := rfl
@[simp] theorem exec_jmpAbs (addr : Word) (s : State) :
    exec (.jmpAbs addr) s = .next (jmp (.abs addr) s) := rfl
@[simp] theorem exec_jmpInd (ptr : Word) (s : State) :
    exec (.jmpInd ptr) s = .next (jmp (.ind ptr) s) := rfl
@[simp] theorem exec_jsr (addr : Word) (s : State) :
    exec (.jsr addr) s = .next (jsr addr s) := rfl
@[simp] theorem exec_rts (s : State) :
    exec .rts s = .next (rts s) := rfl
@[simp] theorem exec_bcc (rel8 : Byte) (s : State) :
    exec (.bcc rel8) s = .next (branch (!s.sr.c) rel8 s) := rfl
@[simp] theorem exec_bcs (rel8 : Byte) (s : State) :
    exec (.bcs rel8) s = .next (branch s.sr.c rel8 s) := rfl
@[simp] theorem exec_beq (rel8 : Byte) (s : State) :
    exec (.beq rel8) s = .next (branch s.sr.z rel8 s) := rfl
@[simp] theorem exec_bmi (rel8 : Byte) (s : State) :
    exec (.bmi rel8) s = .next (branch s.sr.n rel8 s) := rfl
@[simp] theorem exec_bne (rel8 : Byte) (s : State) :
    exec (.bne rel8) s = .next (branch (!s.sr.z) rel8 s) := rfl
@[simp] theorem exec_bpl (rel8 : Byte) (s : State) :
    exec (.bpl rel8) s = .next (branch (!s.sr.n) rel8 s) := rfl
@[simp] theorem exec_bvc (rel8 : Byte) (s : State) :
    exec (.bvc rel8) s = .next (branch (!s.sr.v) rel8 s) := rfl
@[simp] theorem exec_bvs (rel8 : Byte) (s : State) :
    exec (.bvs rel8) s = .next (branch s.sr.v rel8 s) := rfl
@[simp] theorem exec_pha (s : State) :
    exec .pha s = .next (pha s) := rfl
@[simp] theorem exec_php (s : State) :
    exec .php s = .next (php s) := rfl
@[simp] theorem exec_pla (s : State) :
    exec .pla s = .next (pla s) := rfl
@[simp] theorem exec_plp (s : State) :
    exec .plp s = .next (plp s) := rfl
@[simp] theorem exec_brk (s : State) :
    exec .brk s = .next (s.trapEntry) := rfl
@[simp] theorem exec_rti (s : State) :
    exec .rti s = .next (s.trapReturn) := rfl

end Sys2Proof.Machine
end

