-- ==== Sys2Proof/Laws/PerInstr.lean ====
section
/-! SUPPORT. The family EncodingShape: what holds of every instruction as syntax. One lemma per constructor. -/

namespace Sys2Proof.Laws.EncodingShape

/-- The instruction pairs a mnemonic with a mode that mnemonic has (R63, R68), its bytes are as many as its
mode says (R60), and its first byte has an entry in the dispatch table (R63 against R64). -/
def Statement (i : Instr) : Prop :=
  i.wf = true ∧ (encode i).length = i.mode.length ∧ ∃ op rest e, encode i = op :: rest ∧ tableEntry op = some e

theorem ldaImm (u : Byte) : Statement (.ldaImm u) := ⟨rfl, rfl, _, _, _, rfl, rfl⟩
theorem ldaZp (u : Byte) : Statement (.ldaZp u) := ⟨rfl, rfl, _, _, _, rfl, rfl⟩
theorem ldaZpx (u : Byte) : Statement (.ldaZpx u) := ⟨rfl, rfl, _, _, _, rfl, rfl⟩
theorem ldaAbs (u : Word) : Statement (.ldaAbs u) := ⟨rfl, rfl, _, _, _, rfl, rfl⟩
theorem ldaAbx (u : Word) : Statement (.ldaAbx u) := ⟨rfl, rfl, _, _, _, rfl, rfl⟩
theorem ldaAby (u : Word) : Statement (.ldaAby u) := ⟨rfl, rfl, _, _, _, rfl, rfl⟩
theorem ldaIzx (u : Byte) : Statement (.ldaIzx u) := ⟨rfl, rfl, _, _, _, rfl, rfl⟩
theorem ldaIzy (u : Byte) : Statement (.ldaIzy u) := ⟨rfl, rfl, _, _, _, rfl, rfl⟩
theorem ldxImm (u : Byte) : Statement (.ldxImm u) := ⟨rfl, rfl, _, _, _, rfl, rfl⟩
theorem ldxZp (u : Byte) : Statement (.ldxZp u) := ⟨rfl, rfl, _, _, _, rfl, rfl⟩
theorem ldxZpy (u : Byte) : Statement (.ldxZpy u) := ⟨rfl, rfl, _, _, _, rfl, rfl⟩
theorem ldxAbs (u : Word) : Statement (.ldxAbs u) := ⟨rfl, rfl, _, _, _, rfl, rfl⟩
theorem ldxAby (u : Word) : Statement (.ldxAby u) := ⟨rfl, rfl, _, _, _, rfl, rfl⟩
theorem ldyImm (u : Byte) : Statement (.ldyImm u) := ⟨rfl, rfl, _, _, _, rfl, rfl⟩
theorem ldyZp (u : Byte) : Statement (.ldyZp u) := ⟨rfl, rfl, _, _, _, rfl, rfl⟩
theorem ldyZpx (u : Byte) : Statement (.ldyZpx u) := ⟨rfl, rfl, _, _, _, rfl, rfl⟩
theorem ldyAbs (u : Word) : Statement (.ldyAbs u) := ⟨rfl, rfl, _, _, _, rfl, rfl⟩
theorem ldyAbx (u : Word) : Statement (.ldyAbx u) := ⟨rfl, rfl, _, _, _, rfl, rfl⟩
theorem staZp (u : Byte) : Statement (.staZp u) := ⟨rfl, rfl, _, _, _, rfl, rfl⟩
theorem staZpx (u : Byte) : Statement (.staZpx u) := ⟨rfl, rfl, _, _, _, rfl, rfl⟩
theorem staAbs (u : Word) : Statement (.staAbs u) := ⟨rfl, rfl, _, _, _, rfl, rfl⟩
theorem staAbx (u : Word) : Statement (.staAbx u) := ⟨rfl, rfl, _, _, _, rfl, rfl⟩
theorem staAby (u : Word) : Statement (.staAby u) := ⟨rfl, rfl, _, _, _, rfl, rfl⟩
theorem staIzx (u : Byte) : Statement (.staIzx u) := ⟨rfl, rfl, _, _, _, rfl, rfl⟩
theorem staIzy (u : Byte) : Statement (.staIzy u) := ⟨rfl, rfl, _, _, _, rfl, rfl⟩
theorem stxZp (u : Byte) : Statement (.stxZp u) := ⟨rfl, rfl, _, _, _, rfl, rfl⟩
theorem stxZpy (u : Byte) : Statement (.stxZpy u) := ⟨rfl, rfl, _, _, _, rfl, rfl⟩
theorem stxAbs (u : Word) : Statement (.stxAbs u) := ⟨rfl, rfl, _, _, _, rfl, rfl⟩
theorem styZp (u : Byte) : Statement (.styZp u) := ⟨rfl, rfl, _, _, _, rfl, rfl⟩
theorem styZpx (u : Byte) : Statement (.styZpx u) := ⟨rfl, rfl, _, _, _, rfl, rfl⟩
theorem styAbs (u : Word) : Statement (.styAbs u) := ⟨rfl, rfl, _, _, _, rfl, rfl⟩
theorem tax : Statement (.tax) := ⟨rfl, rfl, _, _, _, rfl, rfl⟩
theorem tay : Statement (.tay) := ⟨rfl, rfl, _, _, _, rfl, rfl⟩
theorem txa : Statement (.txa) := ⟨rfl, rfl, _, _, _, rfl, rfl⟩
theorem tya : Statement (.tya) := ⟨rfl, rfl, _, _, _, rfl, rfl⟩
theorem tsx : Statement (.tsx) := ⟨rfl, rfl, _, _, _, rfl, rfl⟩
theorem txs : Statement (.txs) := ⟨rfl, rfl, _, _, _, rfl, rfl⟩
theorem adcImm (u : Byte) : Statement (.adcImm u) := ⟨rfl, rfl, _, _, _, rfl, rfl⟩
theorem adcZp (u : Byte) : Statement (.adcZp u) := ⟨rfl, rfl, _, _, _, rfl, rfl⟩
theorem adcZpx (u : Byte) : Statement (.adcZpx u) := ⟨rfl, rfl, _, _, _, rfl, rfl⟩
theorem adcAbs (u : Word) : Statement (.adcAbs u) := ⟨rfl, rfl, _, _, _, rfl, rfl⟩
theorem adcAbx (u : Word) : Statement (.adcAbx u) := ⟨rfl, rfl, _, _, _, rfl, rfl⟩
theorem adcAby (u : Word) : Statement (.adcAby u) := ⟨rfl, rfl, _, _, _, rfl, rfl⟩
theorem adcIzx (u : Byte) : Statement (.adcIzx u) := ⟨rfl, rfl, _, _, _, rfl, rfl⟩
theorem adcIzy (u : Byte) : Statement (.adcIzy u) := ⟨rfl, rfl, _, _, _, rfl, rfl⟩
theorem sbcImm (u : Byte) : Statement (.sbcImm u) := ⟨rfl, rfl, _, _, _, rfl, rfl⟩
theorem sbcZp (u : Byte) : Statement (.sbcZp u) := ⟨rfl, rfl, _, _, _, rfl, rfl⟩
theorem sbcZpx (u : Byte) : Statement (.sbcZpx u) := ⟨rfl, rfl, _, _, _, rfl, rfl⟩
theorem sbcAbs (u : Word) : Statement (.sbcAbs u) := ⟨rfl, rfl, _, _, _, rfl, rfl⟩
theorem sbcAbx (u : Word) : Statement (.sbcAbx u) := ⟨rfl, rfl, _, _, _, rfl, rfl⟩
theorem sbcAby (u : Word) : Statement (.sbcAby u) := ⟨rfl, rfl, _, _, _, rfl, rfl⟩
theorem sbcIzx (u : Byte) : Statement (.sbcIzx u) := ⟨rfl, rfl, _, _, _, rfl, rfl⟩
theorem sbcIzy (u : Byte) : Statement (.sbcIzy u) := ⟨rfl, rfl, _, _, _, rfl, rfl⟩
theorem cmpImm (u : Byte) : Statement (.cmpImm u) := ⟨rfl, rfl, _, _, _, rfl, rfl⟩
theorem cmpZp (u : Byte) : Statement (.cmpZp u) := ⟨rfl, rfl, _, _, _, rfl, rfl⟩
theorem cmpZpx (u : Byte) : Statement (.cmpZpx u) := ⟨rfl, rfl, _, _, _, rfl, rfl⟩
theorem cmpAbs (u : Word) : Statement (.cmpAbs u) := ⟨rfl, rfl, _, _, _, rfl, rfl⟩
theorem cmpAbx (u : Word) : Statement (.cmpAbx u) := ⟨rfl, rfl, _, _, _, rfl, rfl⟩
theorem cmpAby (u : Word) : Statement (.cmpAby u) := ⟨rfl, rfl, _, _, _, rfl, rfl⟩
theorem cmpIzx (u : Byte) : Statement (.cmpIzx u) := ⟨rfl, rfl, _, _, _, rfl, rfl⟩
theorem cmpIzy (u : Byte) : Statement (.cmpIzy u) := ⟨rfl, rfl, _, _, _, rfl, rfl⟩
theorem cpxImm (u : Byte) : Statement (.cpxImm u) := ⟨rfl, rfl, _, _, _, rfl, rfl⟩
theorem cpxZp (u : Byte) : Statement (.cpxZp u) := ⟨rfl, rfl, _, _, _, rfl, rfl⟩
theorem cpxAbs (u : Word) : Statement (.cpxAbs u) := ⟨rfl, rfl, _, _, _, rfl, rfl⟩
theorem cpyImm (u : Byte) : Statement (.cpyImm u) := ⟨rfl, rfl, _, _, _, rfl, rfl⟩
theorem cpyZp (u : Byte) : Statement (.cpyZp u) := ⟨rfl, rfl, _, _, _, rfl, rfl⟩
theorem cpyAbs (u : Word) : Statement (.cpyAbs u) := ⟨rfl, rfl, _, _, _, rfl, rfl⟩
theorem andImm (u : Byte) : Statement (.andImm u) := ⟨rfl, rfl, _, _, _, rfl, rfl⟩
theorem andZp (u : Byte) : Statement (.andZp u) := ⟨rfl, rfl, _, _, _, rfl, rfl⟩
theorem andZpx (u : Byte) : Statement (.andZpx u) := ⟨rfl, rfl, _, _, _, rfl, rfl⟩
theorem andAbs (u : Word) : Statement (.andAbs u) := ⟨rfl, rfl, _, _, _, rfl, rfl⟩
theorem andAbx (u : Word) : Statement (.andAbx u) := ⟨rfl, rfl, _, _, _, rfl, rfl⟩
theorem andAby (u : Word) : Statement (.andAby u) := ⟨rfl, rfl, _, _, _, rfl, rfl⟩
theorem andIzx (u : Byte) : Statement (.andIzx u) := ⟨rfl, rfl, _, _, _, rfl, rfl⟩
theorem andIzy (u : Byte) : Statement (.andIzy u) := ⟨rfl, rfl, _, _, _, rfl, rfl⟩
theorem oraImm (u : Byte) : Statement (.oraImm u) := ⟨rfl, rfl, _, _, _, rfl, rfl⟩
theorem oraZp (u : Byte) : Statement (.oraZp u) := ⟨rfl, rfl, _, _, _, rfl, rfl⟩
theorem oraZpx (u : Byte) : Statement (.oraZpx u) := ⟨rfl, rfl, _, _, _, rfl, rfl⟩
theorem oraAbs (u : Word) : Statement (.oraAbs u) := ⟨rfl, rfl, _, _, _, rfl, rfl⟩
theorem oraAbx (u : Word) : Statement (.oraAbx u) := ⟨rfl, rfl, _, _, _, rfl, rfl⟩
theorem oraAby (u : Word) : Statement (.oraAby u) := ⟨rfl, rfl, _, _, _, rfl, rfl⟩
theorem oraIzx (u : Byte) : Statement (.oraIzx u) := ⟨rfl, rfl, _, _, _, rfl, rfl⟩
theorem oraIzy (u : Byte) : Statement (.oraIzy u) := ⟨rfl, rfl, _, _, _, rfl, rfl⟩
theorem eorImm (u : Byte) : Statement (.eorImm u) := ⟨rfl, rfl, _, _, _, rfl, rfl⟩
theorem eorZp (u : Byte) : Statement (.eorZp u) := ⟨rfl, rfl, _, _, _, rfl, rfl⟩
theorem eorZpx (u : Byte) : Statement (.eorZpx u) := ⟨rfl, rfl, _, _, _, rfl, rfl⟩
theorem eorAbs (u : Word) : Statement (.eorAbs u) := ⟨rfl, rfl, _, _, _, rfl, rfl⟩
theorem eorAbx (u : Word) : Statement (.eorAbx u) := ⟨rfl, rfl, _, _, _, rfl, rfl⟩
theorem eorAby (u : Word) : Statement (.eorAby u) := ⟨rfl, rfl, _, _, _, rfl, rfl⟩
theorem eorIzx (u : Byte) : Statement (.eorIzx u) := ⟨rfl, rfl, _, _, _, rfl, rfl⟩
theorem eorIzy (u : Byte) : Statement (.eorIzy u) := ⟨rfl, rfl, _, _, _, rfl, rfl⟩
theorem bitZp (u : Byte) : Statement (.bitZp u) := ⟨rfl, rfl, _, _, _, rfl, rfl⟩
theorem bitAbs (u : Word) : Statement (.bitAbs u) := ⟨rfl, rfl, _, _, _, rfl, rfl⟩
theorem aslAcc : Statement (.aslAcc) := ⟨rfl, rfl, _, _, _, rfl, rfl⟩
theorem aslZp (u : Byte) : Statement (.aslZp u) := ⟨rfl, rfl, _, _, _, rfl, rfl⟩
theorem aslZpx (u : Byte) : Statement (.aslZpx u) := ⟨rfl, rfl, _, _, _, rfl, rfl⟩
theorem aslAbs (u : Word) : Statement (.aslAbs u) := ⟨rfl, rfl, _, _, _, rfl, rfl⟩
theorem aslAbx (u : Word) : Statement (.aslAbx u) := ⟨rfl, rfl, _, _, _, rfl, rfl⟩
theorem lsrAcc : Statement (.lsrAcc) := ⟨rfl, rfl, _, _, _, rfl, rfl⟩
theorem lsrZp (u : Byte) : Statement (.lsrZp u) := ⟨rfl, rfl, _, _, _, rfl, rfl⟩
theorem lsrZpx (u : Byte) : Statement (.lsrZpx u) := ⟨rfl, rfl, _, _, _, rfl, rfl⟩
theorem lsrAbs (u : Word) : Statement (.lsrAbs u) := ⟨rfl, rfl, _, _, _, rfl, rfl⟩
theorem lsrAbx (u : Word) : Statement (.lsrAbx u) := ⟨rfl, rfl, _, _, _, rfl, rfl⟩
theorem rolAcc : Statement (.rolAcc) := ⟨rfl, rfl, _, _, _, rfl, rfl⟩
theorem rolZp (u : Byte) : Statement (.rolZp u) := ⟨rfl, rfl, _, _, _, rfl, rfl⟩
theorem rolZpx (u : Byte) : Statement (.rolZpx u) := ⟨rfl, rfl, _, _, _, rfl, rfl⟩
theorem rolAbs (u : Word) : Statement (.rolAbs u) := ⟨rfl, rfl, _, _, _, rfl, rfl⟩
theorem rolAbx (u : Word) : Statement (.rolAbx u) := ⟨rfl, rfl, _, _, _, rfl, rfl⟩
theorem rorAcc : Statement (.rorAcc) := ⟨rfl, rfl, _, _, _, rfl, rfl⟩
theorem rorZp (u : Byte) : Statement (.rorZp u) := ⟨rfl, rfl, _, _, _, rfl, rfl⟩
theorem rorZpx (u : Byte) : Statement (.rorZpx u) := ⟨rfl, rfl, _, _, _, rfl, rfl⟩
theorem rorAbs (u : Word) : Statement (.rorAbs u) := ⟨rfl, rfl, _, _, _, rfl, rfl⟩
theorem rorAbx (u : Word) : Statement (.rorAbx u) := ⟨rfl, rfl, _, _, _, rfl, rfl⟩
theorem incZp (u : Byte) : Statement (.incZp u) := ⟨rfl, rfl, _, _, _, rfl, rfl⟩
theorem incZpx (u : Byte) : Statement (.incZpx u) := ⟨rfl, rfl, _, _, _, rfl, rfl⟩
theorem incAbs (u : Word) : Statement (.incAbs u) := ⟨rfl, rfl, _, _, _, rfl, rfl⟩
theorem incAbx (u : Word) : Statement (.incAbx u) := ⟨rfl, rfl, _, _, _, rfl, rfl⟩
theorem decZp (u : Byte) : Statement (.decZp u) := ⟨rfl, rfl, _, _, _, rfl, rfl⟩
theorem decZpx (u : Byte) : Statement (.decZpx u) := ⟨rfl, rfl, _, _, _, rfl, rfl⟩
theorem decAbs (u : Word) : Statement (.decAbs u) := ⟨rfl, rfl, _, _, _, rfl, rfl⟩
theorem decAbx (u : Word) : Statement (.decAbx u) := ⟨rfl, rfl, _, _, _, rfl, rfl⟩
theorem inx : Statement (.inx) := ⟨rfl, rfl, _, _, _, rfl, rfl⟩
theorem iny : Statement (.iny) := ⟨rfl, rfl, _, _, _, rfl, rfl⟩
theorem dex : Statement (.dex) := ⟨rfl, rfl, _, _, _, rfl, rfl⟩
theorem dey : Statement (.dey) := ⟨rfl, rfl, _, _, _, rfl, rfl⟩
theorem clc : Statement (.clc) := ⟨rfl, rfl, _, _, _, rfl, rfl⟩
theorem cld : Statement (.cld) := ⟨rfl, rfl, _, _, _, rfl, rfl⟩
theorem cli : Statement (.cli) := ⟨rfl, rfl, _, _, _, rfl, rfl⟩
theorem clv : Statement (.clv) := ⟨rfl, rfl, _, _, _, rfl, rfl⟩
theorem sec : Statement (.sec) := ⟨rfl, rfl, _, _, _, rfl, rfl⟩
theorem sed : Statement (.sed) := ⟨rfl, rfl, _, _, _, rfl, rfl⟩
theorem sei : Statement (.sei) := ⟨rfl, rfl, _, _, _, rfl, rfl⟩
theorem nop : Statement (.nop) := ⟨rfl, rfl, _, _, _, rfl, rfl⟩
theorem jmpAbs (u : Word) : Statement (.jmpAbs u) := ⟨rfl, rfl, _, _, _, rfl, rfl⟩
theorem jmpInd (u : Word) : Statement (.jmpInd u) := ⟨rfl, rfl, _, _, _, rfl, rfl⟩
theorem jsr (u : Word) : Statement (.jsr u) := ⟨rfl, rfl, _, _, _, rfl, rfl⟩
theorem rts : Statement (.rts) := ⟨rfl, rfl, _, _, _, rfl, rfl⟩
theorem bcc (u : Byte) : Statement (.bcc u) := ⟨rfl, rfl, _, _, _, rfl, rfl⟩
theorem bcs (u : Byte) : Statement (.bcs u) := ⟨rfl, rfl, _, _, _, rfl, rfl⟩
theorem beq (u : Byte) : Statement (.beq u) := ⟨rfl, rfl, _, _, _, rfl, rfl⟩
theorem bmi (u : Byte) : Statement (.bmi u) := ⟨rfl, rfl, _, _, _, rfl, rfl⟩
theorem bne (u : Byte) : Statement (.bne u) := ⟨rfl, rfl, _, _, _, rfl, rfl⟩
theorem bpl (u : Byte) : Statement (.bpl u) := ⟨rfl, rfl, _, _, _, rfl, rfl⟩
theorem bvc (u : Byte) : Statement (.bvc u) := ⟨rfl, rfl, _, _, _, rfl, rfl⟩
theorem bvs (u : Byte) : Statement (.bvs u) := ⟨rfl, rfl, _, _, _, rfl, rfl⟩
theorem pha : Statement (.pha) := ⟨rfl, rfl, _, _, _, rfl, rfl⟩
theorem php : Statement (.php) := ⟨rfl, rfl, _, _, _, rfl, rfl⟩
theorem pla : Statement (.pla) := ⟨rfl, rfl, _, _, _, rfl, rfl⟩
theorem plp : Statement (.plp) := ⟨rfl, rfl, _, _, _, rfl, rfl⟩
theorem brk : Statement (.brk) := ⟨rfl, rfl, _, _, _, rfl, rfl⟩
theorem rti : Statement (.rti) := ⟨rfl, rfl, _, _, _, rfl, rfl⟩

end Sys2Proof.Laws.EncodingShape
end

