-- ==== Sys2Proof/Laws/Step.lean ====
section
/-! SUPPORT. The inversion of a step: it executes the instruction decoded at PC in the state after the opcode
fetch, or the opcode has no entry and it raises ProgrammingFault. Then the run of the loop: its turns add up, and
what every step keeps a run keeps. -/

namespace Sys2Proof.Machine

theorem step_cases (s : State) :
    (∃ i rest, decode s.fetchBytes = .ok (i, rest) ∧ step s = exec i s.afterOpcodeFetch) ∨
    (tableEntry s.opcodeAt = none ∧ step s = raiseNoEntry s.opcodeAt s.pc) := by
  rcases decode_three s.opcodeAt (Memory.read s.mem (s.pc + 1).toNat) (Memory.read s.mem (s.pc + 2).toNat) with
    ⟨i, rest, h⟩ | ⟨hn, h⟩
  · have h' : decode s.fetchBytes = .ok (i, rest) := h
    exact .inl ⟨i, rest, h', by simp [step, h']⟩
  · have h' : decode s.fetchBytes = .error (.noEntry s.opcodeAt) := h
    exact .inr ⟨hn, by simp [step, h']⟩

/-- The turns of a run add up. -/
theorem runLoop_add (halt : State → Bool) (m n : Nat) (k : Session) :
    runLoop halt (m + n) k = runLoop halt n (runLoop halt m k) := by
  induction m generalizing k with
  | zero => simp [runLoop]
  | succ m ih => rw [Nat.succ_add]; exact ih (loopTurn halt k)

/-- A property that every completed step and the opcode fetch of a faulting one keep holds after a run of any
length. -/
theorem runLoop_keeps {P : State → Prop} (halt : State → Bool) (hstep : ∀ s t, P s → step s = .next t → P t)
    (hfetch : ∀ s, P s → P s.afterOpcodeFetch) (n : Nat) (k : Session) (h : P k.st) : P (runLoop halt n k).st := by
  induction n generalizing k with
  | zero => exact h
  | succ n ih =>
    refine ih (loopTurn halt k) ?_
    unfold loopTurn
    split
    · split
      · exact h
      · split
        · exact hstep _ _ h (by assumption)
        · exact hfetch _ h
        · exact h
    · exact h
    · exact h

end Sys2Proof.Machine
end

