-- ==== Sys2Proof/Tests/Slice0.lean ====
section
/-! SUPPORT. The model's own tests. Expected results come from `spec/95_test_vectors.md` (the vector's id is in the
test's name) or from the encodings of `spec/30_encoding.md` R63, written out by hand; nothing here is the model's
own answer pasted back. Then the ill-formed terms that the checks refuse, and a witness for the hypotheses of each
statement that has some. -/

namespace Sys2Proof.Tests

open Sys2Proof.Machine Sys2Proof.Spec

/-- The reset state with bytes at PC. -/
def at' (pc : Word) (bytes : List Byte) : State :=
  { State.reset with pc := pc, mem := Memory.bulkWrite State.reset.mem pc bytes }

/-- The same at the default load address. -/
def code (bytes : List Byte) : State := at' 0x0200 bytes

/-- All seven flags 1. -/
def allSet : Flags := Flags.unflatten 0xFF

/-- With one cell changed. -/
def poke (a : Nat) (v : Byte) (s : State) : State := { s with mem := Memory.write s.mem a v }

/-- A view of the state after one step; none where the step does not complete. -/
def after {α : Type} (s : State) (view : State → α) : Option α :=
  match step s with
  | .next t => some (view t)
  | .fault _ => none
  | .refused _ => none

/-- The instruction a byte list decodes to, if it is exactly that instruction. -/
def reads (bytes : List Byte) : Option Instr :=
  match decode bytes with
  | .ok (i, []) => some i
  | .ok (_, _ :: _) => none
  | .error _ => none

/-! Decoding, every constructor: the bytes of R63 and R67, low operand byte first (R62). -/

theorem test_decode_lda :
    [[0xA9, 0x9C], [0xA5, 0x9C], [0xB5, 0x9C], [0xAD, 0x34, 0x12], [0xBD, 0x34, 0x12], [0xB9, 0x34, 0x12],
     [0xA1, 0x9C], [0xB1, 0x9C]].map reads =
    [some (.ldaImm 0x9C), some (.ldaZp 0x9C), some (.ldaZpx 0x9C), some (.ldaAbs 0x1234),
     some (.ldaAbx 0x1234), some (.ldaAby 0x1234), some (.ldaIzx 0x9C), some (.ldaIzy 0x9C)] := by decide

theorem test_decode_ldx :
    [[0xA2, 0x9C], [0xA6, 0x9C], [0xB6, 0x9C], [0xAE, 0x34, 0x12], [0xBE, 0x34, 0x12]].map reads =
    [some (.ldxImm 0x9C), some (.ldxZp 0x9C), some (.ldxZpy 0x9C), some (.ldxAbs 0x1234), some (.ldxAby 0x1234)] := by decide

theorem test_decode_ldy :
    [[0xA0, 0x9C], [0xA4, 0x9C], [0xB4, 0x9C], [0xAC, 0x34, 0x12], [0xBC, 0x34, 0x12]].map reads =
    [some (.ldyImm 0x9C), some (.ldyZp 0x9C), some (.ldyZpx 0x9C), some (.ldyAbs 0x1234), some (.ldyAbx 0x1234)] := by decide

theorem test_decode_sta :
    [[0x85, 0x9C], [0x95, 0x9C], [0x8D, 0x34, 0x12], [0x9D, 0x34, 0x12], [0x99, 0x34, 0x12], [0x81, 0x9C],
     [0x91, 0x9C]].map reads =
    [some (.staZp 0x9C), some (.staZpx 0x9C), some (.staAbs 0x1234), some (.staAbx 0x1234),
     some (.staAby 0x1234), some (.staIzx 0x9C), some (.staIzy 0x9C)] := by decide

theorem test_decode_stx :
    [[0x86, 0x9C], [0x96, 0x9C], [0x8E, 0x34, 0x12]].map reads =
    [some (.stxZp 0x9C), some (.stxZpy 0x9C), some (.stxAbs 0x1234)] := by decide

theorem test_decode_sty :
    [[0x84, 0x9C], [0x94, 0x9C], [0x8C, 0x34, 0x12]].map reads =
    [some (.styZp 0x9C), some (.styZpx 0x9C), some (.styAbs 0x1234)] := by decide

theorem test_decode_tax : [[0xAA]].map reads = [some .tax] := by decide

theorem test_decode_tay : [[0xA8]].map reads = [some .tay] := by decide

theorem test_decode_txa : [[0x8A]].map reads = [some .txa] := by decide

theorem test_decode_tya : [[0x98]].map reads = [some .tya] := by decide

theorem test_decode_tsx : [[0xBA]].map reads = [some .tsx] := by decide

theorem test_decode_txs : [[0x9A]].map reads = [some .txs] := by decide

theorem test_decode_adc :
    [[0x69, 0x9C], [0x65, 0x9C], [0x75, 0x9C], [0x6D, 0x34, 0x12], [0x7D, 0x34, 0x12], [0x79, 0x34, 0x12],
     [0x61, 0x9C], [0x71, 0x9C]].map reads =
    [some (.adcImm 0x9C), some (.adcZp 0x9C), some (.adcZpx 0x9C), some (.adcAbs 0x1234),
     some (.adcAbx 0x1234), some (.adcAby 0x1234), some (.adcIzx 0x9C), some (.adcIzy 0x9C)] := by decide

theorem test_decode_sbc :
    [[0xE9, 0x9C], [0xE5, 0x9C], [0xF5, 0x9C], [0xED, 0x34, 0x12], [0xFD, 0x34, 0x12], [0xF9, 0x34, 0x12],
     [0xE1, 0x9C], [0xF1, 0x9C]].map reads =
    [some (.sbcImm 0x9C), some (.sbcZp 0x9C), some (.sbcZpx 0x9C), some (.sbcAbs 0x1234),
     some (.sbcAbx 0x1234), some (.sbcAby 0x1234), some (.sbcIzx 0x9C), some (.sbcIzy 0x9C)] := by decide

theorem test_decode_cmp :
    [[0xC9, 0x9C], [0xC5, 0x9C], [0xD5, 0x9C], [0xCD, 0x34, 0x12], [0xDD, 0x34, 0x12], [0xD9, 0x34, 0x12],
     [0xC1, 0x9C], [0xD1, 0x9C]].map reads =
    [some (.cmpImm 0x9C), some (.cmpZp 0x9C), some (.cmpZpx 0x9C), some (.cmpAbs 0x1234),
     some (.cmpAbx 0x1234), some (.cmpAby 0x1234), some (.cmpIzx 0x9C), some (.cmpIzy 0x9C)] := by decide

theorem test_decode_cpx :
    [[0xE0, 0x9C], [0xE4, 0x9C], [0xEC, 0x34, 0x12]].map reads =
    [some (.cpxImm 0x9C), some (.cpxZp 0x9C), some (.cpxAbs 0x1234)] := by decide

theorem test_decode_cpy :
    [[0xC0, 0x9C], [0xC4, 0x9C], [0xCC, 0x34, 0x12]].map reads =
    [some (.cpyImm 0x9C), some (.cpyZp 0x9C), some (.cpyAbs 0x1234)] := by decide

theorem test_decode_and :
    [[0x29, 0x9C], [0x25, 0x9C], [0x35, 0x9C], [0x2D, 0x34, 0x12], [0x3D, 0x34, 0x12], [0x39, 0x34, 0x12],
     [0x21, 0x9C], [0x31, 0x9C]].map reads =
    [some (.andImm 0x9C), some (.andZp 0x9C), some (.andZpx 0x9C), some (.andAbs 0x1234),
     some (.andAbx 0x1234), some (.andAby 0x1234), some (.andIzx 0x9C), some (.andIzy 0x9C)] := by decide

theorem test_decode_ora :
    [[0x09, 0x9C], [0x05, 0x9C], [0x15, 0x9C], [0x0D, 0x34, 0x12], [0x1D, 0x34, 0x12], [0x19, 0x34, 0x12],
     [0x01, 0x9C], [0x11, 0x9C]].map reads =
    [some (.oraImm 0x9C), some (.oraZp 0x9C), some (.oraZpx 0x9C), some (.oraAbs 0x1234),
     some (.oraAbx 0x1234), some (.oraAby 0x1234), some (.oraIzx 0x9C), some (.oraIzy 0x9C)] := by decide

theorem test_decode_eor :
    [[0x49, 0x9C], [0x45, 0x9C], [0x55, 0x9C], [0x4D, 0x34, 0x12], [0x5D, 0x34, 0x12], [0x59, 0x34, 0x12],
     [0x41, 0x9C], [0x51, 0x9C]].map reads =
    [some (.eorImm 0x9C), some (.eorZp 0x9C), some (.eorZpx 0x9C), some (.eorAbs 0x1234),
     some (.eorAbx 0x1234), some (.eorAby 0x1234), some (.eorIzx 0x9C), some (.eorIzy 0x9C)] := by decide

theorem test_decode_bit :
    [[0x24, 0x9C], [0x2C, 0x34, 0x12]].map reads =
    [some (.bitZp 0x9C), some (.bitAbs 0x1234)] := by decide

theorem test_decode_asl :
    [[0x0A], [0x06, 0x9C], [0x16, 0x9C], [0x0E, 0x34, 0x12], [0x1E, 0x34, 0x12]].map reads =
    [some .aslAcc, some (.aslZp 0x9C), some (.aslZpx 0x9C), some (.aslAbs 0x1234), some (.aslAbx 0x1234)] := by decide

theorem test_decode_lsr :
    [[0x4A], [0x46, 0x9C], [0x56, 0x9C], [0x4E, 0x34, 0x12], [0x5E, 0x34, 0x12]].map reads =
    [some .lsrAcc, some (.lsrZp 0x9C), some (.lsrZpx 0x9C), some (.lsrAbs 0x1234), some (.lsrAbx 0x1234)] := by decide

theorem test_decode_rol :
    [[0x2A], [0x26, 0x9C], [0x36, 0x9C], [0x2E, 0x34, 0x12], [0x3E, 0x34, 0x12]].map reads =
    [some .rolAcc, some (.rolZp 0x9C), some (.rolZpx 0x9C), some (.rolAbs 0x1234), some (.rolAbx 0x1234)] := by decide

theorem test_decode_ror :
    [[0x6A], [0x66, 0x9C], [0x76, 0x9C], [0x6E, 0x34, 0x12], [0x7E, 0x34, 0x12]].map reads =
    [some .rorAcc, some (.rorZp 0x9C), some (.rorZpx 0x9C), some (.rorAbs 0x1234), some (.rorAbx 0x1234)] := by decide

theorem test_decode_inc :
    [[0xE6, 0x9C], [0xF6, 0x9C], [0xEE, 0x34, 0x12], [0xFE, 0x34, 0x12]].map reads =
    [some (.incZp 0x9C), some (.incZpx 0x9C), some (.incAbs 0x1234), some (.incAbx 0x1234)] := by decide

theorem test_decode_dec :
    [[0xC6, 0x9C], [0xD6, 0x9C], [0xCE, 0x34, 0x12], [0xDE, 0x34, 0x12]].map reads =
    [some (.decZp 0x9C), some (.decZpx 0x9C), some (.decAbs 0x1234), some (.decAbx 0x1234)] := by decide

theorem test_decode_inx : [[0xE8]].map reads = [some .inx] := by decide

theorem test_decode_iny : [[0xC8]].map reads = [some .iny] := by decide

theorem test_decode_dex : [[0xCA]].map reads = [some .dex] := by decide

theorem test_decode_dey : [[0x88]].map reads = [some .dey] := by decide

theorem test_decode_clc : [[0x18]].map reads = [some .clc] := by decide

theorem test_decode_cld : [[0xD8]].map reads = [some .cld] := by decide

theorem test_decode_cli : [[0x58]].map reads = [some .cli] := by decide

theorem test_decode_clv : [[0xB8]].map reads = [some .clv] := by decide

theorem test_decode_sec : [[0x38]].map reads = [some .sec] := by decide

theorem test_decode_sed : [[0xF8]].map reads = [some .sed] := by decide

theorem test_decode_sei : [[0x78]].map reads = [some .sei] := by decide

theorem test_decode_nop : [[0xEA]].map reads = [some .nop] := by decide

theorem test_decode_jmp :
    [[0x4C, 0x34, 0x12], [0x6C, 0x34, 0x12]].map reads =
    [some (.jmpAbs 0x1234), some (.jmpInd 0x1234)] := by decide

theorem test_decode_jsr : [[0x20, 0x34, 0x12]].map reads = [some (.jsr 0x1234)] := by decide

theorem test_decode_rts : [[0x60]].map reads = [some .rts] := by decide

theorem test_decode_bcc : [[0x90, 0x9C]].map reads = [some (.bcc 0x9C)] := by decide

theorem test_decode_bcs : [[0xB0, 0x9C]].map reads = [some (.bcs 0x9C)] := by decide

theorem test_decode_beq : [[0xF0, 0x9C]].map reads = [some (.beq 0x9C)] := by decide

theorem test_decode_bmi : [[0x30, 0x9C]].map reads = [some (.bmi 0x9C)] := by decide

theorem test_decode_bne : [[0xD0, 0x9C]].map reads = [some (.bne 0x9C)] := by decide

theorem test_decode_bpl : [[0x10, 0x9C]].map reads = [some (.bpl 0x9C)] := by decide

theorem test_decode_bvc : [[0x50, 0x9C]].map reads = [some (.bvc 0x9C)] := by decide

theorem test_decode_bvs : [[0x70, 0x9C]].map reads = [some (.bvs 0x9C)] := by decide

theorem test_decode_pha : [[0x48]].map reads = [some .pha] := by decide

theorem test_decode_php : [[0x08]].map reads = [some .php] := by decide

theorem test_decode_pla : [[0x68]].map reads = [some .pla] := by decide

theorem test_decode_plp : [[0x28]].map reads = [some .plp] := by decide

theorem test_decode_brk : [[0x00]].map reads = [some .brk] := by decide

theorem test_decode_rti : [[0x40]].map reads = [some .rti] := by decide

theorem test_decode_refuses_illegal : decode [0x02] = .error (.noEntry 0x02) ∧ decode [0xFF, 0xFF] = .error (.noEntry 0xFF) := by
  decide

theorem test_decode_refuses_truncated : decode [] = .error .empty ∧ decode [0xA9] = .error (.truncated 0xA9) ∧
    decode [0xAD, 0x00] = .error (.truncated 0xAD) := by decide

/-- Table words are numbered from bit 0 of the first byte: 0x1234AD is the bytes AD 34 12. -/
theorem test_table_word : decodeTableWord 24 0x1234AD = some (.ldaAbs 0x1234) ∧ decodeTableWord 8 0xAD = some (.ldaAbs 0) ∧
    decodeTableWord 8 0x02 = none := by decide

theorem test_fetch_word_runs : after (State.reset.withFetchWord 16 0x80A9) (fun t => (t.ac, t.pc)) = some (0x80, 0x0202) := by
  decide

/-! WellFormed: the terms each check refuses (R63's empty cells, R68; U10). -/

theorem test_pairs_refused : [(Mnemonic.sta, Mode.imm), (.lda, .zpy), (.ldx, .zpx), (.stx, .aby), (.jmp, .zp), (.inc, .acc),
    (.jsr, .ind), (.bit, .imm), (.brk, .imm), (.bne, .abs)].map (fun p => pairWellFormed p.1 p.2) =
    List.replicate 10 false := by decide

theorem test_pairs_accepted : [(Mnemonic.sta, Mode.izy), (.ldx, .zpy), (.asl, .acc), (.jmp, .ind), (.bne, .rel)].map
    (fun p => pairWellFormed p.1 p.2) = List.replicate 5 true := by decide

/-- An image of 65537 bytes is refused, one of 65536 is not. -/
theorem test_params : Config.Params.wf { program := List.replicate 65537 0xEA } = false ∧
    Config.Params.wf { program := List.replicate 65536 0xEA } = true :=
  ⟨decide_eq_false (by rw [List.length_replicate]; decide), decide_eq_true (le_of_eq List.length_replicate)⟩

/-- The canonical form refuses an unsorted list, a repeated address, a listed 0x00 and an address past the space. -/
theorem test_memory_form : [[(2, 1), (1, 1)], [(1, 1), (1, 2)], [(1, 0)], [(65536, 1)]].map Memory.wf =
    [false, false, false, false] := by decide

/-! One step of each instruction, from the vectors. -/

theorem test_TL1_lda :
    after { code [0xA9, 0x00] with ac := 0x55, sr := { Flags.cleared with n := true } } (fun t => (t.ac, t.sr, t.cyc)) =
    some (0x00, { Flags.cleared with z := true }, 2) := by decide

theorem test_TA3_lda :
    after (poke 0x0101 0x99 (poke 0x0001 0x44 { code [0xB5, 0xFF] with x := 0x02 })) (fun t => (t.ac, t.sr, t.cyc)) =
    some (0x44, Flags.cleared, 4) := by decide

theorem test_TA8_lda : after (poke 0x0000 0x79 { code [0xBD, 0xFF, 0xFF] with x := 0x01 }) (fun t => (t.ac, t.sr, t.cyc)) =
    some (0x79, Flags.cleared, 5) := by decide

theorem test_TA14_lda :
    after (poke 0x1234 0x7C (poke 0x0100 0x99 (poke 0x00FF 0x34 (poke 0x0000 0x12 { code [0xA1, 0xFE] with x := 0x01 })))) (fun t => (t.ac, t.sr, t.cyc)) =
    some (0x7C, Flags.cleared, 6) := by decide

theorem test_TA16_lda :
    after (poke 0x1300 0x7E (poke 0x0021 0x12 (poke 0x0020 0xFF { code [0xB1, 0x20] with y := 0x01 }))) (fun t => (t.ac, t.sr, t.cyc)) =
    some (0x7E, Flags.cleared, 6) := by decide

theorem test_TA17_lda :
    after (poke 0x4000 0x7F (poke 0x0100 0x99 (poke 0x00FF 0x00 (poke 0x0000 0x40 (code [0xB1, 0xFF]))))) (fun t => (t.ac, t.sr, t.cyc)) =
    some (0x7F, Flags.cleared, 5) := by decide

theorem test_TA4_ldx :
    after (poke 0x0110 0x99 (poke 0x0010 0x55 { code [0xB6, 0xF0] with y := 0x20 })) (fun t => (t.x, t.sr, t.cyc)) =
    some (0x55, Flags.cleared, 4) := by decide

theorem test_TL5_ldx : after (poke 0x0302 0x81 { code [0xBE, 0x00, 0x03] with y := 0x02 }) (fun t => (t.x, t.sr, t.cyc)) =
    some (0x81, { Flags.cleared with n := true }, 4) := by decide

theorem test_TL6_ldy : after (poke 0x0010 0xFF (code [0xA4, 0x10])) (fun t => (t.y, t.sr, t.cyc)) =
    some (0xFF, { Flags.cleared with n := true }, 3) := by decide

theorem test_TL7_ldy : after (poke 0x0303 0x01 { code [0xBC, 0x00, 0x03] with x := 0x03 }) (fun t => (t.y, t.sr, t.cyc)) =
    some (0x01, Flags.cleared, 4) := by decide

theorem test_TL9_sta : after { code [0x85, 0x10] with sr := { Flags.cleared with n := true } } (fun t => (cell t 0x0010, t.cyc)) =
    some (0x00, 3) := by decide

theorem test_TL10_sta : after { code [0x8D, 0x00, 0x02] with ac := 0xEA } (fun t => (cell t 0x0200, t.cyc)) =
    some (0xEA, 4) := by decide

theorem test_TA11_sta : after { code [0x9D, 0xFF, 0x03] with ac := 0x55, x := 0x01 } (fun t => (cell t 0x0400, t.cyc)) =
    some (0x55, 5) := by decide

theorem test_TA12_sta : after { code [0x99, 0x00, 0x03] with ac := 0x56, y := 0x02 } (fun t => (cell t 0x0302, t.cyc)) =
    some (0x56, 5) := by decide

theorem test_TA18_sta :
    after (poke 0x0021 0x30 (poke 0x0020 0x00 { code [0x91, 0x20] with ac := 0x5A, y := 0x10 })) (fun t => (cell t 0x3010, t.cyc)) =
    some (0x5A, 6) := by decide

theorem test_TA19_sta :
    after (poke 0x0021 0x31 (poke 0x0020 0x00 { code [0x81, 0x20] with ac := 0x5B })) (fun t => (cell t 0x3100, t.cyc)) =
    some (0x5B, 6) := by decide

theorem test_TL11_stx : after { code [0x86, 0x10] with x := 0x07 } (fun t => (cell t 0x0010, t.cyc)) =
    some (0x07, 3) := by decide

theorem test_TA22_stx : after { code [0x96, 0xF0] with x := 0x07, y := 0x20 } (fun t => (cell t 0x0010, t.cyc)) =
    some (0x07, 4) := by decide

theorem test_TA23_sty : after { code [0x94, 0x10] with x := 0xF8, y := 0x09 } (fun t => (cell t 0x0008, t.cyc)) =
    some (0x09, 4) := by decide

theorem test_TL12_sty : after { code [0x8C, 0x00, 0x04] with y := 0x80 } (fun t => (cell t 0x0400, t.cyc)) =
    some (0x80, 4) := by decide

theorem test_TL13_tax : after { code [0xAA] with x := 0x05 } (fun t => (t.x, t.sr, t.cyc)) =
    some (0x00, { Flags.cleared with z := true }, 2) := by decide

theorem test_TL14_tay : after { code [0xA8] with ac := 0x90 } (fun t => (t.y, t.sr, t.cyc)) =
    some (0x90, { Flags.cleared with n := true }, 2) := by decide

theorem test_TL15_txa :
    after { code [0x8A] with ac := 0xFF, x := 0x7F, sr := { Flags.cleared with n := true } } (fun t => (t.ac, t.sr, t.cyc)) =
    some (0x7F, Flags.cleared, 2) := by decide

theorem test_TL16_tya : after { code [0x98] with ac := 0x01 } (fun t => (t.ac, t.sr, t.cyc)) =
    some (0x00, { Flags.cleared with z := true }, 2) := by decide

theorem test_TL17_tsx : after (code [0xBA]) (fun t => (t.x, t.sr, t.cyc)) =
    some (0xFF, { Flags.cleared with n := true }, 2) := by decide

theorem test_TL18_txs : after { code [0x9A] with x := 0x80 } (fun t => (t.sp, t.sr, t.cyc)) =
    some (0x80, Flags.cleared, 2) := by decide

theorem test_TR32_adc : after (poke 0x0005 0x7F { code [0x75, 0x10] with ac := 0x01, x := 0xF5 }) (fun t => (t.ac, t.sr, t.cyc)) =
    some (0x80, { Flags.cleared with n := true, v := true }, 4) := by decide

theorem test_TR33_adc :
    after (poke 0x4402 0x20 { code [0x79, 0x00, 0x44] with ac := 0x10, y := 0x02, sr := { Flags.cleared with c := true } }) (fun t => (t.ac, t.sr, t.cyc)) =
    some (0x31, Flags.cleared, 4) := by decide

theorem test_TR34_adc :
    after (poke 0x3000 0xFF (poke 0x0025 0x30 (poke 0x0024 0x00 { code [0x61, 0x20] with ac := 0x01, x := 0x04 }))) (fun t => (t.ac, t.sr, t.cyc)) =
    some (0x00, { Flags.cleared with z := true, c := true }, 6) := by decide

theorem test_TR35_adc :
    after (poke 0x3100 0x01 (poke 0x0021 0x30 (poke 0x0020 0xFF { code [0x71, 0x20] with ac := 0x01, y := 0x01 }))) (fun t => (t.ac, t.sr, t.cyc)) =
    some (0x02, Flags.cleared, 6) := by decide

theorem test_TR40_adc :
    after { code [0x69, 0x01] with ac := 0x99, sr := { Flags.cleared with d := true } } (fun t => (t.ac, t.sr, t.cyc)) =
    some (0x9A, { Flags.cleared with n := true, d := true }, 2) := by decide

theorem test_TR42_adc :
    after (poke 0x4500 0x02 { code [0x7D, 0xFF, 0x44] with ac := 0x01, x := 0x01 }) (fun t => (t.ac, t.sr, t.cyc)) =
    some (0x03, Flags.cleared, 5) := by decide

theorem test_TR36_sbc :
    after (poke 0x0010 0x01 { code [0xE5, 0x10] with ac := 0x10, sr := { Flags.cleared with c := true } }) (fun t => (t.ac, t.sr, t.cyc)) =
    some (0x0F, { Flags.cleared with c := true }, 3) := by decide

theorem test_TR37_sbc : after (poke 0x4400 0x01 { code [0xED, 0x00, 0x44] with ac := 0x10 }) (fun t => (t.ac, t.sr, t.cyc)) =
    some (0x0E, { Flags.cleared with c := true }, 4) := by decide

theorem test_TR38_sbc :
    after (poke 0x4500 0x01 { code [0xFD, 0xFF, 0x44] with x := 0x01, sr := { Flags.cleared with c := true } }) (fun t => (t.ac, t.sr, t.cyc)) =
    some (0xFF, { Flags.cleared with n := true }, 5) := by decide

theorem test_TR39_sbc :
    after (poke 0x3000 0x01 (poke 0x0021 0x30 (poke 0x0020 0x00 { code [0xF1, 0x20] with ac := 0x80, sr := { Flags.cleared with c := true } }))) (fun t => (t.ac, t.sr, t.cyc)) =
    some (0x7F, { Flags.cleared with v := true }, 5) := by decide

theorem test_TC11_cmp : after (poke 0x0010 0x30 { code [0xC5, 0x10] with ac := 0x30 }) (fun t => (t.sr, t.cyc)) =
    some ({ Flags.cleared with z := true, c := true }, 3) := by decide

theorem test_TC12_cmp : after (poke 0x4500 0x31 { code [0xDD, 0xFF, 0x44] with ac := 0x30, x := 0x01 }) (fun t => (t.sr, t.cyc)) =
    some ({ Flags.cleared with n := true }, 5) := by decide

theorem test_TC13_cmp :
    after (poke 0x3010 0x2F (poke 0x0021 0x30 (poke 0x0020 0x00 { code [0xD1, 0x20] with ac := 0x30, y := 0x10 }))) (fun t => (t.sr, t.cyc)) =
    some ({ Flags.cleared with c := true }, 5) := by decide

theorem test_TC14_cpx : after (poke 0x0010 0x06 { code [0xE4, 0x10] with x := 0x05 }) (fun t => (t.sr, t.cyc)) =
    some ({ Flags.cleared with n := true }, 3) := by decide

theorem test_TC15_cpx : after (poke 0x4400 0x05 { code [0xEC, 0x00, 0x44] with x := 0x05 }) (fun t => (t.sr, t.cyc)) =
    some ({ Flags.cleared with z := true, c := true }, 4) := by decide

theorem test_TC16_cpy : after (poke 0x0010 0x01 { code [0xC4, 0x10] with y := 0x80 }) (fun t => (t.sr, t.cyc)) =
    some ({ Flags.cleared with c := true }, 3) := by decide

theorem test_TC17_cpy :
    after (poke 0x4400 0x01 { code [0xCC, 0x00, 0x44] with sr := { Flags.cleared with c := true } }) (fun t => (t.sr, t.cyc)) =
    some ({ Flags.cleared with n := true }, 4) := by decide

theorem test_TG2_and :
    after { code [0x29, 0xFF] with ac := 0x80, sr := { Flags.cleared with c := true } } (fun t => (t.ac, t.sr, t.cyc)) =
    some (0x80, { Flags.cleared with n := true, c := true }, 2) := by decide

theorem test_TG3_ora : after { code [0x09, 0x80] with ac := 0x01 } (fun t => (t.ac, t.sr, t.cyc)) =
    some (0x81, { Flags.cleared with n := true }, 2) := by decide

theorem test_TG6_eor :
    after { code [0x49, 0xAA] with ac := 0xAA, sr := { Flags.cleared with v := true } } (fun t => (t.ac, t.sr, t.cyc)) =
    some (0x00, { Flags.cleared with v := true, z := true }, 2) := by decide

theorem test_TG7_and : after (poke 0x0011 0x0F { code [0x35, 0x10] with ac := 0x3C, x := 0x01 }) (fun t => (t.ac, t.sr, t.cyc)) =
    some (0x0C, Flags.cleared, 4) := by decide

theorem test_TG9_bit : after (poke 0x0010 0xC0 (code [0x24, 0x10])) (fun t => (t.sr, t.cyc)) =
    some ({ Flags.cleared with n := true, v := true, z := true }, 3) := by decide

theorem test_TG10_bit :
    after (poke 0x0300 0x3F { code [0x2C, 0x00, 0x03] with ac := 0xFF, sr := { Flags.cleared with n := true, v := true } }) (fun t => (t.sr, t.cyc)) =
    some (Flags.cleared, 4) := by decide

theorem test_TH2_asl : after { code [0x0A] with ac := 0x80 } (fun t => (t.ac, t.sr, t.cyc)) =
    some (0x00, { Flags.cleared with z := true, c := true }, 2) := by decide

theorem test_TH5_lsr :
    after { code [0x4A] with ac := 0xFF, sr := { Flags.cleared with n := true } } (fun t => (t.ac, t.sr, t.cyc)) =
    some (0x7F, { Flags.cleared with c := true }, 2) := by decide

theorem test_TH8_rol :
    after { code [0x2A] with ac := 0x80, sr := { Flags.cleared with c := true } } (fun t => (t.ac, t.sr, t.cyc)) =
    some (0x01, { Flags.cleared with c := true }, 2) := by decide

theorem test_TH10_ror : after { code [0x6A] with sr := { Flags.cleared with c := true } } (fun t => (t.ac, t.sr, t.cyc)) =
    some (0x80, { Flags.cleared with n := true }, 2) := by decide

theorem test_TH11_asl : after (poke 0x0010 0xC1 (code [0x06, 0x10])) (fun t => (t.sr, cell t 0x0010, t.cyc)) =
    some ({ Flags.cleared with n := true, c := true }, 0x82, 5) := by decide

theorem test_TH12_lsr : after (poke 0x0011 0x02 { code [0x56, 0x10] with x := 0x01 }) (fun t => (t.sr, cell t 0x0011, t.cyc)) =
    some (Flags.cleared, 0x01, 6) := by decide

theorem test_TH13_rol :
    after (poke 0x0300 0x7F { code [0x2E, 0x00, 0x03] with sr := { Flags.cleared with c := true } }) (fun t => (t.sr, cell t 0x0300, t.cyc)) =
    some ({ Flags.cleared with n := true }, 0xFF, 6) := by decide

theorem test_TH15_ror :
    after (poke 0x0400 0x02 { code [0x7E, 0xFF, 0x03] with x := 0x01, sr := { Flags.cleared with c := true } }) (fun t => (t.sr, cell t 0x0400, t.cyc)) =
    some ({ Flags.cleared with n := true }, 0x81, 7) := by decide

theorem test_TH16_inc :
    after (poke 0x0020 0xFF { code [0xE6, 0x20] with sr := { Flags.cleared with c := true } }) (fun t => (t.sr, cell t 0x0020, t.cyc)) =
    some ({ Flags.cleared with z := true, c := true }, 0x00, 5) := by decide

theorem test_TH18_inc :
    after (poke 0x0302 0x00 { code [0xFE, 0x00, 0x03] with x := 0x02 }) (fun t => (t.sr, cell t 0x0302, t.cyc)) =
    some (Flags.cleared, 0x01, 7) := by decide

theorem test_TH19_dec : after (poke 0x0300 0x01 (code [0xCE, 0x00, 0x03])) (fun t => (t.sr, cell t 0x0300, t.cyc)) =
    some ({ Flags.cleared with z := true }, 0x00, 6) := by decide

theorem test_TH20_dec : after (poke 0x0000 0x00 { code [0xD6, 0x20] with x := 0xE0 }) (fun t => (t.sr, cell t 0x0000, t.cyc)) =
    some ({ Flags.cleared with n := true }, 0xFF, 6) := by decide

theorem test_TH21_inx : after { code [0xE8] with x := 0xFF } (fun t => (t.x, t.sr, t.cyc)) =
    some (0x00, { Flags.cleared with z := true }, 2) := by decide

theorem test_TH23_iny : after { code [0xC8] with y := 0xFF } (fun t => (t.y, t.sr, t.cyc)) =
    some (0x00, { Flags.cleared with z := true }, 2) := by decide

theorem test_TH25_dex : after (code [0xCA]) (fun t => (t.x, t.sr, t.cyc)) =
    some (0xFF, { Flags.cleared with n := true }, 2) := by decide

theorem test_TH27_dey : after (code [0x88]) (fun t => (t.y, t.sr, t.cyc)) =
    some (0xFF, { Flags.cleared with n := true }, 2) := by decide

theorem test_TF1_clc : after { code [0x18] with sr := allSet } (fun t => (t.sr, t.cyc)) =
    some ({ Flags.cleared with n := true, v := true, b := true, d := true, i := true, z := true }, 2) := by decide

theorem test_TF2_cld : after { code [0xD8] with sr := allSet } (fun t => (t.sr, t.cyc)) =
    some ({ Flags.cleared with n := true, v := true, b := true, i := true, z := true, c := true }, 2) := by decide

theorem test_TF3_cli : after { code [0x58] with sr := allSet } (fun t => (t.sr, t.cyc)) =
    some ({ Flags.cleared with n := true, v := true, b := true, d := true, z := true, c := true }, 2) := by decide

theorem test_TF4_clv : after { code [0xB8] with sr := allSet } (fun t => (t.sr, t.cyc)) =
    some ({ Flags.cleared with n := true, b := true, d := true, i := true, z := true, c := true }, 2) := by decide

theorem test_TF5_sec : after (code [0x38]) (fun t => (t.sr, t.cyc)) =
    some ({ Flags.cleared with c := true }, 2) := by decide

theorem test_TF6_sed : after (code [0xF8]) (fun t => (t.sr, t.cyc)) =
    some ({ Flags.cleared with d := true }, 2) := by decide

theorem test_TF7_sei : after (code [0x78]) (fun t => (t.sr, t.cyc)) =
    some ({ Flags.cleared with i := true }, 2) := by decide

theorem test_TF8_nop :
    after { code [0xEA] with ac := 0x01, x := 0x02, y := 0x03, sr := { Flags.cleared with n := true, c := true } } (fun t => (t.sr, t.cyc)) =
    some ({ Flags.cleared with n := true, c := true }, 2) := by decide

theorem test_TJ1_jmp : after (code [0x4C, 0x10, 0x02]) (fun t => (t.pc, t.cyc)) =
    some (0x0210, 3) := by decide

theorem test_TA21_jmp :
    after (poke 0x0400 0x09 (poke 0x03FF 0x40 (poke 0x0300 0x05 (code [0x6C, 0xFF, 0x03])))) (fun t => (t.pc, t.cyc)) =
    some (0x0540, 5) := by decide

theorem test_TJ4_jsr :
    after { code [0x20, 0x10, 0x02] with sp := 0x00 } (fun t => (t.pc, t.sp, cell t 0x0100, cell t 0x01FF, t.cyc)) =
    some (0x0210, 0xFE, 0x02, 0x02, 6) := by decide

theorem test_TJ6_rts :
    after (poke 0x01FF 0xFF (poke 0x01FE 0xFF { code [0x60] with sp := 0xFD })) (fun t => (t.pc, t.sp, t.cyc)) =
    some (0x0000, 0xFF, 6) := by decide

theorem test_TJ8_bne : after (code [0xD0, 0x10]) (fun t => (t.pc, t.cyc)) =
    some (0x0212, 3) := by decide

theorem test_TJ10_bne : after (code [0xD0, 0x80]) (fun t => (t.pc, t.cyc)) =
    some (0x0182, 4) := by decide

theorem test_TJ11_beq : after { code [0xF0, 0xFE] with sr := { Flags.cleared with z := true } } (fun t => (t.pc, t.cyc)) =
    some (0x0200, 3) := by decide

theorem test_TJ12_bcc : after (code [0x90, 0x04]) (fun t => (t.pc, t.cyc)) =
    some (0x0206, 3) := by decide

theorem test_TJ14_bcs : after { code [0xB0, 0x04] with sr := { Flags.cleared with c := true } } (fun t => (t.pc, t.cyc)) =
    some (0x0206, 3) := by decide

theorem test_TJ15_bmi : after { code [0x30, 0x7F] with sr := { Flags.cleared with n := true } } (fun t => (t.pc, t.cyc)) =
    some (0x0281, 3) := by decide

theorem test_TJ19_bpl : after (at' 0x02FE [0x10, 0x7D]) (fun t => (t.pc, t.cyc)) =
    some (0x037D, 3) := by decide

theorem test_TJ17_bvc : after { code [0x50, 0x10] with sr := { Flags.cleared with v := true } } (fun t => (t.pc, t.cyc)) =
    some (0x0202, 2) := by decide

theorem test_TJ18_bvs : after { code [0x70, 0x00] with sr := { Flags.cleared with v := true } } (fun t => (t.pc, t.cyc)) =
    some (0x0202, 3) := by decide

theorem test_TK2_pha : after { code [0x48] with ac := 0x42, sp := 0x00 } (fun t => (t.sp, cell t 0x0100, t.cyc)) =
    some (0xFF, 0x42, 3) := by decide

theorem test_TK5_php : after { code [0x08] with sr := allSet } (fun t => (t.sp, t.sr, cell t 0x01FF, t.cyc)) =
    some (0xFE, allSet, 0xFF, 3) := by decide

theorem test_TK8_pla : after (poke 0x0100 0x80 (code [0x68])) (fun t => (t.ac, t.sp, t.sr, t.cyc)) =
    some (0x80, 0x00, { Flags.cleared with n := true }, 4) := by decide

theorem test_TK10_plp : after (poke 0x01FF 0x00 { code [0x28] with sp := 0xFE, sr := allSet }) (fun t => (t.sp, t.sr, t.cyc)) =
    some (0xFF, Flags.cleared, 4) := by decide

theorem test_TK14_brk :
    after (poke 0xFFFF 0x12 (poke 0xFFFE 0x34 { code [0x00] with sp := 0x01, sr := { Flags.cleared with i := true, z := true } })) (fun t => (t.pc, t.sr, cell t 0x0101, cell t 0x0100, cell t 0x01FF, t.cyc)) =
    some (0x1234, { Flags.cleared with b := true, i := true, z := true }, 0x02, 0x01, 0x36, 7) := by decide

theorem test_TK15_rti :
    after (poke 0x01FF 0x02 (poke 0x01FE 0x01 (poke 0x01FD 0xB1 { code [0x40] with sp := 0xFC }))) (fun t => (t.pc, t.sp, t.sr, t.cyc)) =
    some (0x0201, 0xFF, { Flags.cleared with n := true, b := true, c := true }, 6) := by decide

theorem test_TR1_adc_imm : after { code [0x69, 0xFF] with ac := 0xFF } (fun t => (t.ac, t.sr, t.cyc)) =
    some (0xFE, { Flags.cleared with n := true, c := true }, 2) := by decide

theorem test_TR13_adc_imm : after { code [0x69, 0x80] with ac := 0x80 } (fun t => (t.ac, t.sr)) =
    some (0x00, { Flags.cleared with v := true, z := true, c := true }) := by decide

/-- The raw carry is 1, and the block forces C to 0 on overflow. -/
theorem test_TR20_sbc_imm : after { code [0xE9, 0x01] with ac := 0x80, sr := { Flags.cleared with c := true } }
    (fun t => (t.ac, t.sr)) = some (0x7F, { Flags.cleared with v := true }) := by decide

theorem test_TR14_sbc_imm : after { code [0xE9, 0x10] with ac := 0x50, sr := { Flags.cleared with c := true } }
    (fun t => (t.ac, t.sr, t.cyc)) = some (0x40, { Flags.cleared with c := true }, 2) := by decide

/-- D is not read: 0x09 + 0x09 is 0x12 with D set. -/
theorem test_TF9_decimal_ignored : after { code [0x69, 0x09] with ac := 0x09, sr := { Flags.cleared with d := true } }
    (fun t => t.ac) = some 0x12 := by decide

theorem test_TX1_illegal : step (code [0x02]) = .fault (.programmingFault .noEntry 0x02 0x0200) := rfl

theorem test_TX4_illegal : step (code [0xEB, 0x01]) = .fault (.programmingFault .noEntry 0xEB 0x0200) := rfl

/-- TP10: the fetch wraps from 0xFFFF to 0x0000. -/
theorem test_fetch_wraps : after (at' 0xFFFF [0xAD, 0x00, 0x03]) (fun t => (t.pc, t.cyc)) = some (0x0002, 4) := by decide

theorem test_TP2_flatten : Flags.cleared.flatten = 0x20 ∧ (Flags.unflatten 0xFF).flatten = 0xFF := by decide

theorem test_TP4_unflatten : Flags.unflatten 0x10 = { Flags.cleared with b := true } ∧
    Flags.unflatten 0xDF = Flags.unflatten 0xFF := by decide

/-- TP14: the vector wins over an image that covers it. -/
theorem test_TP14_construct : (constructed { program := [0xEA, 0x11, 0x22, 0xEA, 0xEA], loadAddr := 0xFFFB }).mem =
    [(0xFFFB, 0xEA), (0xFFFC, 0xFB), (0xFFFD, 0xFF), (0xFFFE, 0xEA), (0xFFFF, 0xEA)] := by decide

/-- TP12: the empty image halts before any fetch. -/
theorem test_TP12_empty : observe (runLoop (haltDefault 0x0200 0) 5 (Session.start { program := [] })) =
    some (.snapshot 0x0200 0 0 0 0xFF 0x20 0) := by decide

/-- TP13: one step, then PC is outside the image. -/
theorem test_TP13_entry : observe (runLoop (haltDefault 0x8000 5) 2
    (Session.start { program := [0xEA, 0xEA, 0xEA, 0xA9, 0x07], loadAddr := 0x8000, entry := 0x8003 })) =
    some (.snapshot 0x8005 0x07 0 0 0xFF 0x20 2) := by decide

/-! A witness for the hypotheses of each statement that has some, clause by clause. -/

theorem witness_EncodeDecodeRoundTrip : decode [0xAD, 0x34, 0x12, 0xEA] = .ok (.ldaAbs 0x1234, [0xEA]) := by decide

theorem witness_OpcodeMapIsTheTable : (Mode.imp, (0x00 : Byte)) ∈ opcodeCells .brk ∧ (Mode.abx, (0xFE : Byte)) ∈ opcodeCells .inc := by
  decide

theorem witness_IllegalOpcodesAreRejected : (0x02 : Byte) ∈ illegalOpcodes ∧ (0xFF : Byte) ∈ illegalOpcodes ∧
    (0x00 : Byte) ∉ illegalOpcodes ∧ (0xFE : Byte) ∉ illegalOpcodes := by decide

/-- The instruction's bytes straddle the end of the address space. -/
theorem witness_StepRunsTheDecodedInstruction : let s := at' 0xFFFF [0xAD, 0x34, 0x12]
    decode [cell s s.pc.toNat, cell s (s.pc + 1).toNat, cell s (s.pc + 2).toNat] = .ok (.ldaAbs 0x1234, []) := by decide

theorem witness_StepIsTotalAndFaultsOnlyOnIllegalOpcodes :
    cell (code [0x02]) (code [0x02]).pc.toNat ∈ illegalOpcodes ∧ cell (code [0x00]) (code [0x00]).pc.toNat ∉ illegalOpcodes := by
  decide

theorem witness_FetchWordRunsFirst : decodeTableWord 24 0x1234AD = some (.ldaAbs 0x1234) ∧
    0xFFFF ≠ State.reset.pc.toNat ∧ 0xFFFF ≠ (State.reset.pc + 1).toNat ∧ 0xFFFF ≠ (State.reset.pc + 2).toNat := by decide

/-- A state with the invariant whose next step stores at the top of memory. -/
theorem witness_StepKeepsTheInvariant : let s := { code [0x8D, 0xFF, 0xFF] with ac := 0x80 }
    s.inv = true ∧ ∃ t, step s = .next t := by refine ⟨by decide, _, rfl⟩

theorem witness_StepCostsTwoToSevenCycles : (∃ t, step (code [0xEA]) = .next t) ∧ ∃ t, step (code [0x00]) = .next t :=
  ⟨⟨_, rfl⟩, ⟨_, rfl⟩⟩

theorem witness_FlagsChangeOnlyByTheirWriters : Mnemonic.sta ∉ nzWriters ∧ Mnemonic.inc ∉ vWriters ∧ Mnemonic.php ∉ bWriters ∧
    Mnemonic.sei ∉ dWriters ∧ Mnemonic.brk ∉ iWriters ∧ Mnemonic.dec ∉ cWriters := by decide

theorem witness_RegistersChangeOnlyByTheirWriters : writesAc (.aslZp 0xFF) = false ∧ Mnemonic.stx ∉ xWriters ∧
    Mnemonic.sty ∉ yWriters ∧ Mnemonic.tsx ∉ spWriters := by decide

theorem witness_MemoryChangesOnlyByStores : writesMemory (.bitAbs 0xFFFF) = false ∧ writesMemory .aslAcc = false ∧
    writesMemory .rti = false := by decide

/-- An untaken branch, and an instruction of each other length. -/
theorem witness_PcPassesTheInstruction : Mnemonic.bne ∉ [Mnemonic.jmp, .jsr, .rts, .rti, .brk] ∧
    branchTaken .bne { Flags.cleared with z := true } = false ∧ Mnemonic.nop ∉ [Mnemonic.jmp, .jsr, .rts, .rti, .brk] ∧
    branchTaken .nop Flags.cleared = false ∧ branchTaken .lda Flags.cleared = false := by decide

theorem witness_NothingReadsBreakDecimalInterrupt :
    let u := { State.reset with sr := { Flags.cleared with b := true, d := true, i := true } }
    Mnemonic.adc ∉ [Mnemonic.php, .brk] ∧ blind State.reset = blind u ∧ State.reset ≠ u ∧
    Mnemonic.plp ∉ [Mnemonic.php, .brk] ∧ Instr.brk.mnemonic = .brk ∧ Mnemonic.brk ∉ [Mnemonic.sed, .cld, .plp, .rti] ∧
    Mnemonic.brk ∉ [Mnemonic.sei, .cli, .plp, .rti] ∧ Mnemonic.sei ∉ [Mnemonic.brk, .plp, .rti] := by decide

theorem witness_LdaLoadsItsRegister : (⟨0xA9, .ldaImm 0xFF, .imm 0xFF⟩ : Row) ∈ ldaRows 0xFF 0xFFFF ∧
    (⟨0xB1, .ldaIzy 0xFF, .izy 0xFF⟩ : Row) ∈ ldaRows 0xFF 0xFFFF := by decide

theorem witness_LdxLoadsItsRegister : (⟨0xA2, .ldxImm 0xFF, .imm 0xFF⟩ : Row) ∈ ldxRows 0xFF 0xFFFF ∧
    (⟨0xBE, .ldxAby 0xFFFF, .aby 0xFFFF⟩ : Row) ∈ ldxRows 0xFF 0xFFFF := by decide

theorem witness_LdyLoadsItsRegister : (⟨0xA0, .ldyImm 0xFF, .imm 0xFF⟩ : Row) ∈ ldyRows 0xFF 0xFFFF ∧
    (⟨0xBC, .ldyAbx 0xFFFF, .abx 0xFFFF⟩ : Row) ∈ ldyRows 0xFF 0xFFFF := by decide

theorem witness_StoresWriteOneByte : (⟨0x81, .staIzx 0xFF, .izx 0xFF⟩ : Row) ∈ staRows 0xFF 0xFFFF ∧
    (⟨0x96, .stxZpy 0xFF, .zpy 0xFF⟩ : Row) ∈ stxRows 0xFF 0xFFFF ∧
    (⟨0x8C, .styAbs 0xFFFF, .abs 0xFFFF⟩ : Row) ∈ styRows 0xFF 0xFFFF := by decide

theorem witness_AdcAddsWithCarry : (⟨0x69, .adcImm 0xFF, .imm 0xFF⟩ : Row) ∈ adcRows 0xFF 0xFFFF ∧
    (⟨0x71, .adcIzy 0xFF, .izy 0xFF⟩ : Row) ∈ adcRows 0xFF 0xFFFF := by decide

theorem witness_SbcSubtractsWithBorrow : (⟨0xE9, .sbcImm 0xFF, .imm 0xFF⟩ : Row) ∈ sbcRows 0xFF 0xFFFF ∧
    (⟨0xF1, .sbcIzy 0xFF, .izy 0xFF⟩ : Row) ∈ sbcRows 0xFF 0xFFFF := by decide

theorem witness_OverflowIsOutOfSignedRange : (⟨0x7D, .adcAbx 0xFFFF, .abx 0xFFFF⟩ : Row) ∈ adcRows 0xFF 0xFFFF ∧
    (⟨0xE1, .sbcIzx 0xFF, .izx 0xFF⟩ : Row) ∈ sbcRows 0xFF 0xFFFF := by decide

theorem witness_ComparesSetFlagsOnly : (⟨0xD9, .cmpAby 0xFFFF, .aby 0xFFFF⟩ : Row) ∈ cmpRows 0xFF 0xFFFF ∧
    (⟨0xE0, .cpxImm 0xFF, .imm 0xFF⟩ : Row) ∈ cpxRows 0xFF 0xFFFF ∧
    (⟨0xCC, .cpyAbs 0xFFFF, .abs 0xFFFF⟩ : Row) ∈ cpyRows 0xFF 0xFFFF := by decide

theorem witness_LogicCombinesWithAccumulator : (⟨0x35, .andZpx 0xFF, .zpx 0xFF⟩ : Row) ∈ andRows 0xFF 0xFFFF ∧
    (⟨0x0D, .oraAbs 0xFFFF, .abs 0xFFFF⟩ : Row) ∈ oraRows 0xFF 0xFFFF ∧
    (⟨0x51, .eorIzy 0xFF, .izy 0xFF⟩ : Row) ∈ eorRows 0xFF 0xFFFF := by decide

theorem witness_BitTestsTheOperand : (⟨0x24, .bitZp 0xFF, .zp 0xFF⟩ : Row) ∈ bitRows 0xFF 0xFFFF ∧
    (⟨0x2C, .bitAbs 0xFFFF, .abs 0xFFFF⟩ : Row) ∈ bitRows 0xFF 0xFFFF := by decide

theorem witness_AslShiftsMemoryAndAccumulator : (⟨0x1E, .aslAbx 0xFFFF, .abx 0xFFFF⟩ : Row) ∈ aslRows 0xFF 0xFFFF := by decide

theorem witness_LsrShiftsMemoryAndAccumulator : (⟨0x46, .lsrZp 0xFF, .zp 0xFF⟩ : Row) ∈ lsrRows 0xFF 0xFFFF := by decide

theorem witness_RolRotatesMemoryAndAccumulator : (⟨0x36, .rolZpx 0xFF, .zpx 0xFF⟩ : Row) ∈ rolRows 0xFF 0xFFFF := by decide

theorem witness_RorRotatesMemoryAndAccumulator : (⟨0x6E, .rorAbs 0xFFFF, .abs 0xFFFF⟩ : Row) ∈ rorRows 0xFF 0xFFFF := by decide

theorem witness_IncDecModifyMemory : (⟨0xFE, .incAbx 0xFFFF, .abx 0xFFFF⟩ : Row) ∈ incRows 0xFF 0xFFFF ∧
    (⟨0xC6, .decZp 0xFF, .zp 0xFF⟩ : Row) ∈ decRows 0xFF 0xFFFF := by decide

theorem witness_NopOnlyTakesTime : cell (code [0xEA]) (code [0xEA]).pc.toNat = 0xEA := by decide

/-- The handler runs in a state that differs from the one right after the push: another PC and another AC. -/
theorem witness_JsrThenRtsReturns : let t := jsr 0x1234 { State.reset with sp := 0x00 }
    exec (.jsr 0x1234) { State.reset with sp := 0x00 } = .next t ∧ ({ t with pc := 0x8000, ac := 1 } : State).sp = t.sp ∧
    sameStackPage t { t with pc := 0x8000, ac := 1 } := ⟨rfl, rfl, fun _ _ _ => rfl⟩

theorem witness_BrkThenRtiRestores : let t := State.trapEntry { State.reset with sp := 0x01 }
    exec .brk { State.reset with sp := 0x01 } = .next t ∧ ({ t with pc := 0x8000, ac := 1 } : State).sp = t.sp ∧
    sameStackPage t { t with pc := 0x8000, ac := 1 } := ⟨rfl, rfl, fun _ _ _ => rfl⟩

theorem witness_PushThenPullRestores : let s := { State.reset with sp := 0x00, ac := 0x42 }
    (exec .pha s = .next (pha s) ∧ sameStackPage (pha s) { pha s with ac := 0 } ∧ ({ pha s with ac := 0 } : State).sp = (pha s).sp) ∧
    (exec .php s = .next (php s) ∧ sameStackPage (php s) { php s with ac := 0 } ∧ ({ php s with ac := 0 } : State).sp = (php s).sp) :=
  ⟨⟨rfl, fun _ _ _ => rfl, rfl⟩, ⟨rfl, fun _ _ _ => rfl, rfl⟩⟩

theorem witness_MemoryReadAfterWrite : (0x0000 : Word) ≠ 0xFFFF := by decide

/-- Two writes to the last cell with a read between, a write elsewhere, a cell never written; and reads alone. -/
theorem witness_ReadGivesTheLatestWrite :
    let acc : List (Word × Option Byte) := [(0xFFFF, some 1), (0xFFFF, none), (0x0000, some 3), (0xFFFF, some 2)]
    ((acc.foldl access State.reset).memRead 0xFFFF).1 = 2 ∧ latestWrite 0xFFFF acc = some 2 ∧ latestWrite 0xFFFD acc = none ∧
    ∀ x ∈ ([(0xFFFD, none), (0x0000, none)] : List (Word × Option Byte)), x.2 = none :=
  ⟨by decide, by decide, by decide, by simp⟩

/-- A store that hits the next opcode, and one that does not. -/
theorem witness_StoreIsSeenByTheNextFetch : (code [0x8D, 0x03, 0x02]).fetchBytes = [0x8D, 0x03, 0x02] ∧
    (code [0x8D, 0xFF, 0xFF]).fetchBytes = [0x8D, 0xFF, 0xFF] := by decide

/-- The largest image; an image byte outside the vector; a cell outside both. -/
theorem witness_ConstructionGivesTheResetValues :
    (List.replicate 65536 (0xEA : Byte)).length ≤ 65536 ∧
    ([0xA9, 0x01] : List Byte)[1]? = some 0x01 ∧ (0xFFFF + 1) % 65536 ≠ 0xFFFC ∧ (0xFFFF + 1) % 65536 ≠ 0xFFFD ∧
    (∀ k, k < [0xA9, 0x01].length → (0xFFFF + k) % 65536 ≠ 1) := by
  refine ⟨le_of_eq List.length_replicate, rfl, by decide, by decide, by decide⟩

theorem witness_TooLongImageIsRefused : 65536 < (List.replicate 65537 (0xEA : Byte)).length := by
  rw [List.length_replicate]; decide

theorem witness_LoopTestsHaltThenSteps : (fun _ : State => true) State.reset = true ∧
    (fun _ : State => false) State.reset = false ∧ (∃ t, step State.reset = .next t) ∧
    Condition.halted ≠ .running ∧ Condition.faulted 0xFF 0xFFFF ≠ .running := by
  refine ⟨rfl, rfl, ⟨_, rfl⟩, by decide, by decide⟩

theorem witness_FaultEndsTheRun : haltDefault 0x0200 1 (code [0x02]) = false ∧
    cell (code [0x02]) (code [0x02]).pc.toNat ∈ illegalOpcodes := by decide

/-- TP15: PC at the image's last byte, one past it, and one before it. -/
theorem witness_DefaultHaltIsOutsideTheImage : haltDefault 0x0200 2 { State.reset with pc := 0x0202 } = true ∧
    haltDefault 0x0200 2 { State.reset with pc := 0x01FF } = true ∧
    haltDefault 0x0200 2 { code [0xEA, 0xEA] with pc := 0x0201 } = false ∧
    ∃ t, step { code [0xEA, 0xEA] with pc := 0x0201 } = .next t := by
  refine ⟨by decide, by decide, by decide, _, rfl⟩

end Sys2Proof.Tests
end

section
/-! PROOFS. What one bus access, and a sequence of them, costs in cycles (R10, R31, R42). -/

namespace Sys2Proof.Spec
open Sys2Proof.Machine

@[simp] theorem access_cyc (s : State) (x : Word × Option Byte) : (access s x).cyc = s.cyc + 1 := by
  obtain ⟨a, _ | v⟩ := x
  case none => exact tick_cyc s 1
  case some => exact memWrite_cyc s a v

theorem foldl_access_cyc (s : State) (accesses : List (Word × Option Byte)) :
    (accesses.foldl access s).cyc = s.cyc + accesses.length := by
  induction accesses generalizing s with
  | nil => rfl
  | cons x rest ih =>
    calc (rest.foldl access (access s x)).cyc
      _ = (access s x).cyc + rest.length := ih (access s x)
      _ = s.cyc + (x :: rest).length := by rw [access_cyc, List.length_cons]; omega

theorem tick_eq (s : State) (n : Nat) : s.tick n = { s with cyc := s.cyc + n } := rfl

/-- Settles O60, by induction on the sequence of accesses. -/
theorem eachAccessCostsOneCycle : Obligations.EachAccessCostsOneCycle := by
  intro s accesses n
  exact ⟨foldl_access_cyc s accesses, tick_eq s n⟩

end Sys2Proof.Spec
end

section
/-! PROOFS. The 151 arms of `exec` as the meanings of 56 mnemonics. Each family is a relation between a mnemonic and
the model's own function for it, and `exec_meaning` says that every arm is one of them, so that a fact of all
instructions is proved by family. -/

namespace Sys2Proof.Spec
open Sys2Proof.Machine

/-- The meanings that read an operand byte and write registers and flags (R120 to R122, R140 to R144, R150 to R153). -/
inductive Reads : Mnemonic → (Operand → State → State) → Prop
  | lda : Reads .lda lda
  | ldx : Reads .ldx ldx
  | ldy : Reads .ldy ldy
  | adc : Reads .adc adc
  | sbc : Reads .sbc sbc
  | cmp : Reads .cmp cmp
  | cpx : Reads .cpx cpx
  | cpy : Reads .cpy cpy
  | and : Reads .and andAc
  | ora : Reads .ora oraAc
  | eor : Reads .eor eorAc
  | bit : Reads .bit bitTestAc

/-- The meanings that store a register at the operand's address (R123 to R125). -/
inductive Stores : Mnemonic → (Operand → State → State) → Prop
  | sta : Stores .sta sta
  | stx : Stores .stx stx
  | sty : Stores .sty sty

/-- The shifts and rotates, which set C (R161 to R164). -/
inductive Shifts : Mnemonic → Modify → Prop
  | asl : Shifts .asl modifyAsl
  | lsr : Shifts .lsr modifyLsr
  | rol : Shifts .rol modifyRol
  | ror : Shifts .ror modifyRor

/-- The read-modify-write operations on memory: the shifts and rotates, and the two that leave C (R165, R166). -/
inductive Modifies : Mnemonic → Modify → Prop
  | shift {m f} (h : Shifts m f) : Modifies m f
  | inc : Modifies .inc modifyInc
  | dec : Modifies .dec modifyDec

/-- The operand forms a read-modify-write instruction has (R160). -/
inductive Modifiable : Operand → Prop
  | zp (b : Byte) : Modifiable (.zp b)
  | zpx (b : Byte) : Modifiable (.zpx b)
  | abs (a : Word) : Modifiable (.abs a)
  | abx (a : Word) : Modifiable (.abx a)

/-- The two-cycle meanings with no operand byte: they write registers and flags alone (R126 to R131, R160, R167 to
R170, R180 to R187). -/
inductive Implied : Mnemonic → (State → State) → Prop
  | tax : Implied .tax tax
  | tay : Implied .tay tay
  | txa : Implied .txa txa
  | tya : Implied .tya tya
  | tsx : Implied .tsx tsx
  | txs : Implied .txs txs
  | inx : Implied .inx inx
  | iny : Implied .iny iny
  | dex : Implied .dex dex
  | dey : Implied .dey dey
  | clc : Implied .clc clc
  | cld : Implied .cld cld
  | cli : Implied .cli cli
  | clv : Implied .clv clv
  | sec : Implied .sec sec
  | sed : Implied .sed sed
  | sei : Implied .sei sei
  | nop : Implied .nop (·.tick 1)
  | shift {m f} (h : Shifts m f) : Implied m (rmwAcc f)

/-- The mnemonics of R193. -/
def branches : List Mnemonic := [.bcc, .bcs, .beq, .bmi, .bne, .bpl, .bvc, .bvs]

/-- What a mnemonic with an operand form, or with none, does to a state. -/
inductive Meaning : Mnemonic → Option Operand → (State → State) → Prop
  | read {m f} (h : Reads m f) (o : Operand) : Meaning m (some o) (f o)
  | store {m f} (h : Stores m f) (o : Operand) : Meaning m (some o) (f o)
  | modify {m f} (h : Modifies m f) {o : Operand} (ho : Modifiable o) : Meaning m (some o) (rmwMem f o)
  | implied {m f} (h : Implied m f) : Meaning m none f
  | jmpAbs (a : Word) : Meaning .jmp (some (.abs a)) (jmp (.abs a))
  | jmpInd (p : Word) : Meaning .jmp (some (.ind p)) (jmp (.ind p))
  | branch {m} (h : m ∈ branches) (d : Byte) : Meaning m none (fun s => branch (branchTaken m s.sr) d s)
  | jsr (a : Word) : Meaning .jsr none (jsr a)
  | rts : Meaning .rts none rts
  | pha : Meaning .pha none pha
  | php : Meaning .php none php
  | pla : Meaning .pla none pla
  | plp : Meaning .plp none plp
  | brk : Meaning .brk none State.trapEntry
  | rti : Meaning .rti none State.trapReturn

/-- Every instruction completes from every state, by the meaning of its mnemonic and operand form. -/
theorem exec_meaning (i : Instr) :
    ∃ f, (∀ s, exec i s = .next (f s)) ∧ Meaning i.mnemonic (operandOf i) f := by
  cases i with
  | ldaImm | ldaZp | ldaZpx | ldaAbs | ldaAbx | ldaAby | ldaIzx | ldaIzy | ldxImm | ldxZp | ldxZpy | ldxAbs | ldxAby
  | ldyImm | ldyZp | ldyZpx | ldyAbs | ldyAbx | adcImm | adcZp | adcZpx | adcAbs | adcAbx | adcAby | adcIzx | adcIzy
  | sbcImm | sbcZp | sbcZpx | sbcAbs | sbcAbx | sbcAby | sbcIzx | sbcIzy | cmpImm | cmpZp | cmpZpx | cmpAbs | cmpAbx
  | cmpAby | cmpIzx | cmpIzy | cpxImm | cpxZp | cpxAbs | cpyImm | cpyZp | cpyAbs | andImm | andZp | andZpx | andAbs
  | andAbx | andAby | andIzx | andIzy | oraImm | oraZp | oraZpx | oraAbs | oraAbx | oraAby | oraIzx | oraIzy | eorImm
  | eorZp | eorZpx | eorAbs | eorAbx | eorAby | eorIzx | eorIzy | bitZp | bitAbs =>
    exact ⟨_, fun _ => rfl, .read (by constructor) _⟩
  | staZp | staZpx | staAbs | staAbx | staAby | staIzx | staIzy | stxZp | stxZpy | stxAbs | styZp | styZpx | styAbs =>
    exact ⟨_, fun _ => rfl, .store (by constructor) _⟩
  | aslZp | aslZpx | aslAbs | aslAbx | lsrZp | lsrZpx | lsrAbs | lsrAbx | rolZp | rolZpx | rolAbs | rolAbx | rorZp
  | rorZpx | rorAbs | rorAbx =>
    exact ⟨_, fun _ => rfl, .modify (.shift (by constructor)) (by constructor)⟩
  | incZp | incZpx | incAbs | incAbx => exact ⟨_, fun _ => rfl, .modify .inc (by constructor)⟩
  | decZp | decZpx | decAbs | decAbx => exact ⟨_, fun _ => rfl, .modify .dec (by constructor)⟩
  | tax | tay | txa | tya | tsx | txs | inx | iny | dex | dey | clc | cld | cli | clv | sec | sed | sei | nop =>
    exact ⟨_, fun _ => rfl, .implied (by constructor)⟩
  | aslAcc | lsrAcc | rolAcc | rorAcc => exact ⟨_, fun _ => rfl, .implied (.shift (by constructor))⟩
  | bcc | bcs | beq | bmi | bne | bpl | bvc | bvs =>
    exact ⟨_, fun _ => rfl, .branch (by simp [branches, Instr.mnemonic]) _⟩
  | jmpAbs => exact ⟨_, fun _ => rfl, .jmpAbs _⟩
  | jmpInd => exact ⟨_, fun _ => rfl, .jmpInd _⟩
  | jsr => exact ⟨_, fun _ => rfl, .jsr _⟩
  | rts => exact ⟨_, fun _ => rfl, .rts⟩
  | pha => exact ⟨_, fun _ => rfl, .pha⟩
  | php => exact ⟨_, fun _ => rfl, .php⟩
  | pla => exact ⟨_, fun _ => rfl, .pla⟩
  | plp => exact ⟨_, fun _ => rfl, .plp⟩
  | brk => exact ⟨_, fun _ => rfl, .brk⟩
  | rti => exact ⟨_, fun _ => rfl, .rti⟩

/-- A completed step is the opcode fetch and then a meaning. -/
theorem step_meaning {s t : State} (h : step s = .next t) :
    ∃ i f, Meaning i.mnemonic (operandOf i) f ∧ t = f s.afterOpcodeFetch := by
  obtain ⟨i, rest, -, hi⟩ | ⟨-, hf⟩ := step_cases s
  · obtain ⟨f, hexec, hm⟩ := exec_meaning i
    rw [hi, hexec] at h
    exact ⟨i, f, hm, (Host.Outcome.next.inj h).symm⟩
  · rw [hf] at h
    cases h

/-- A meaning that reads an operand byte leaves SP and memory, and takes one cycle beyond the resolver's. -/
theorem Reads.frame {m f} (h : Reads m f) (o : Operand) (s : State) :
    ∃ ac x y sr, f o s = { s with
      pc := (resolve false o s).2.pc
      cyc := (resolve false o s).2.cyc + 1
      ac := ac, x := x, y := y, sr := sr } := by
  cases h with
  | lda => exact ⟨_, _, _, _, lda_eq o s⟩
  | ldx => exact ⟨_, _, _, _, ldx_eq o s⟩
  | ldy => exact ⟨_, _, _, _, ldy_eq o s⟩
  | adc => exact ⟨_, _, _, _, adc_eq o s⟩
  | sbc => exact ⟨_, _, _, _, sbc_eq o s⟩
  | cmp => exact ⟨_, _, _, _, cmp_eq o s⟩
  | cpx => exact ⟨_, _, _, _, cpx_eq o s⟩
  | cpy => exact ⟨_, _, _, _, cpy_eq o s⟩
  | and => exact ⟨_, _, _, _, andAc_eq o s⟩
  | ora => exact ⟨_, _, _, _, oraAc_eq o s⟩
  | eor => exact ⟨_, _, _, _, eorAc_eq o s⟩
  | bit => exact ⟨_, _, _, _, bitTestAc_eq o s⟩

theorem Stores.eq_storeOperand {m f} (h : Stores m f) (o : Operand) (s : State) : ∃ v, f o s = storeOperand o v s := by
  cases h <;> exact ⟨_, rfl⟩

theorem Implied.frame {m f} (h : Implied m f) (s : State) :
    ∃ ac x y sp sr, f s = { s with cyc := s.cyc + 1, ac := ac, x := x, y := y, sp := sp, sr := sr } := by
  cases h <;> exact ⟨_, _, _, _, _, rfl⟩

@[simp] theorem branch_ac (taken : Bool) (d : Byte) (s : State) : (branch taken d s).ac = s.ac := by
  obtain ⟨p, c, h⟩ := branch_pcCycOnly taken d s; rw [h]
@[simp] theorem branch_x (taken : Bool) (d : Byte) (s : State) : (branch taken d s).x = s.x := by
  obtain ⟨p, c, h⟩ := branch_pcCycOnly taken d s; rw [h]
@[simp] theorem branch_y (taken : Bool) (d : Byte) (s : State) : (branch taken d s).y = s.y := by
  obtain ⟨p, c, h⟩ := branch_pcCycOnly taken d s; rw [h]
@[simp] theorem branch_sp (taken : Bool) (d : Byte) (s : State) : (branch taken d s).sp = s.sp := by
  obtain ⟨p, c, h⟩ := branch_pcCycOnly taken d s; rw [h]
@[simp] theorem branch_sr (taken : Bool) (d : Byte) (s : State) : (branch taken d s).sr = s.sr := by
  obtain ⟨p, c, h⟩ := branch_pcCycOnly taken d s; rw [h]
@[simp] theorem branch_mem (taken : Bool) (d : Byte) (s : State) : (branch taken d s).mem = s.mem := by
  obtain ⟨p, c, h⟩ := branch_pcCycOnly taken d s; rw [h]

/-- Every meaning keeps the canonical form: what it writes, it writes at word addresses. -/
theorem Meaning.mem_wf {m o f} (h : Meaning m o f) {s : State} (hs : s.mem.wf = true) : (f s).mem.wf = true := by
  cases h with
  | read h o => obtain ⟨_, _, _, _, e⟩ := h.frame o s; rw [e]; exact hs
  | store h o => obtain ⟨v, e⟩ := h.eq_storeOperand o s; rw [e, storeOperand_eq]; exact Memory.write_word_wf _ _ hs
  | modify => rw [rmwMem_eq]; exact Memory.write_word_wf _ _ hs
  | implied h => obtain ⟨_, _, _, _, _, e⟩ := h.frame s; rw [e]; exact hs
  | jmpAbs | jmpInd => rw [jmp_eq]; exact hs
  | branch => rw [branch_mem]; exact hs
  | jsr a => rw [jsr_eq]; exact Memory.write_word_wf _ _ (Memory.write_word_wf _ _ hs)
  | pha | php => exact Memory.write_word_wf _ _ hs
  | brk => rw [trapEntry_eq]; exact Memory.write_word_wf _ _ (Memory.write_word_wf _ _ (Memory.write_word_wf _ _ hs))
  | rts | pla | plp | rti => exact hs

/-- Settles O10: the opcode fetch leaves memory, and the meaning keeps its form. -/
theorem stepKeepsTheInvariant : Obligations.StepKeepsTheInvariant := by
  intro s t hs h
  obtain ⟨i, f, hm, rfl⟩ := step_meaning h
  exact hm.mem_wf (s := s.afterOpcodeFetch) hs

end Sys2Proof.Spec
end

section
/-! PROOFS. How many operand bytes and cycles an instruction takes (R24, R31, R115). -/

namespace Sys2Proof.Spec
open Sys2Proof.Machine

theorem consume_consume_eq (s : State) : s.consume.consume = advance s 2 2 := by
  apply State.ext_fields <;> simp [advance, BitVec.add_assoc]

/-- The index charge adds at most one cycle to those of the operand's bytes (R107). -/
theorem indexCharge_advance (s : State) (bytes cycles : Nat) (b ea : Word) (w : Bool) :
    ∃ n ≤ cycles + 1, (advance s bytes cycles).indexCharge b ea w = advance s bytes n := by
  unfold State.indexCharge
  split
  · exact ⟨cycles + 1, le_rfl, rfl⟩
  · exact ⟨cycles, Nat.le_succ _, rfl⟩

/-- The most cycles a resolver takes: its column of R115, with the index charge. -/
def mostCycles : Operand → Nat
  | .imm _ => 0
  | .zp _ => 1
  | .zpx _ | .zpy _ | .abs _ => 2
  | .abx _ | .aby _ => 3
  | .ind _ | .izx _ | .izy _ => 4

theorem resolve_eq_advance (w : Bool) (o : Operand) (s : State) :
    ∃ n ≤ mostCycles o, (resolve w o s).2 = advance s (operandBytes o) n := by
  cases o with
  | imm => exact ⟨0, le_rfl, rfl⟩
  | zp => exact ⟨1, le_rfl, rfl⟩
  | zpx | zpy => exact ⟨2, le_rfl, rfl⟩
  | abs => exact ⟨2, le_rfl, consume_consume_eq s⟩
  | abx a =>
    have e : (resolve w (.abx a) s).2 = s.consume.consume.indexCharge a (a + zext16 s.x) w := rfl
    rw [e, consume_consume_eq]
    exact indexCharge_advance s 2 2 _ _ w
  | aby a =>
    have e : (resolve w (.aby a) s).2 = s.consume.consume.indexCharge a (a + zext16 s.y) w := rfl
    rw [e, consume_consume_eq]
    exact indexCharge_advance s 2 2 _ _ w
  | ind p =>
    have e : (resolve w (.ind p) s).2 = s.consume.consume.tick 2 := rfl
    rw [e, consume_consume_eq]
    exact ⟨4, le_rfl, rfl⟩
  | izx => exact ⟨4, le_rfl, rfl⟩
  | izy => exact indexCharge_advance s 1 3 _ _ w

theorem mostCycles_le (o : Operand) : mostCycles o ≤ 4 := by
  cases o <;> simp [mostCycles]

theorem Modifiable.mostCycles_le {o} (h : Modifiable o) : mostCycles o ≤ 3 := by
  cases h <;> simp [mostCycles]

theorem resolve_pc (w : Bool) (o : Operand) (s : State) :
    (resolve w o s).2.pc = s.pc + BitVec.ofNat 16 (operandBytes o) := by
  obtain ⟨n, -, e⟩ := resolve_eq_advance w o s
  rw [e]; rfl

theorem resolve_cyc (w : Bool) (o : Operand) (s : State) :
    s.cyc ≤ (resolve w o s).2.cyc ∧ (resolve w o s).2.cyc ≤ s.cyc + mostCycles o := by
  obtain ⟨n, hn, e⟩ := resolve_eq_advance w o s
  simp [e, advance, hn]

theorem branch_false (d : Byte) (s : State) : branch false d s = s.consume := rfl

/-- A taken branch takes one cycle more, or two where the page of its target is another (R112). -/
theorem branch_true (d : Byte) (s : State) : branch true d s = { s with
      pc := s.pc + 1 + sext16 d
      cyc := s.cyc + if hi (s.pc + 1 + sext16 d) != hi (s.pc + 1) then 3 else 2 } := by
  cases h : hi (s.pc + 1 + sext16 d) != hi (s.pc + 1) <;>
    simp only [branch, if_true, tick_pc, consume_pc, h] <;> rfl

theorem branch_cyc (taken : Bool) (d : Byte) (s : State) :
    s.cyc + 1 ≤ (branch taken d s).cyc ∧ (branch taken d s).cyc ≤ s.cyc + 3 := by
  cases taken with
  | false => simp [branch_false]
  | true => rw [branch_true]; dsimp only; split <;> omega

/-- A meaning charges at least one cycle and at most six beside the opcode fetch. -/
theorem Meaning.cyc_bounds {m o f} (h : Meaning m o f) (s : State) : s.cyc + 1 ≤ (f s).cyc ∧ (f s).cyc ≤ s.cyc + 6 := by
  cases h with
  | read h o =>
    obtain ⟨_, _, _, _, e⟩ := h.frame o s
    have := resolve_cyc false o s
    have := mostCycles_le o
    rw [e]; dsimp only; omega
  | store h o =>
    obtain ⟨v, e⟩ := h.eq_storeOperand o s
    have := resolve_cyc true o s
    have := mostCycles_le o
    rw [e, storeOperand_eq]; dsimp only; omega
  | @modify m f _ o ho =>
    have := resolve_cyc true o s
    have := ho.mostCycles_le
    rw [rmwMem_eq]; dsimp only; omega
  | implied h => obtain ⟨_, _, _, _, _, e⟩ := h.frame s; rw [e]; dsimp only; omega
  | branch h d =>
    obtain ⟨hl, hu⟩ := branch_cyc (branchTaken m s.sr) d s
    exact ⟨hl, hu.trans (by omega)⟩
  | jmpAbs | jmpInd => simp [jmp, resolve, eaAbs, eaInd]
  | jsr | rts | pha | php | pla | plp | brk | rti =>
    simp [jsr_eq, rts_eq, pha_eq, php_eq, pla_eq, plp_eq, trapEntry_eq, trapReturn_eq]

/-- Settles O12: one cycle for the opcode fetch and one to six for the meaning. -/
theorem stepCostsTwoToSevenCycles : Obligations.StepCostsTwoToSevenCycles := by
  intro s t h
  obtain ⟨i, f, hm, rfl⟩ := step_meaning h
  have hf : s.afterOpcodeFetch.cyc = s.cyc + 1 := rfl
  have := hm.cyc_bounds s.afterOpcodeFetch
  omega

/-- The bytes of an instruction after its opcode. -/
def operandLength (m : Mnemonic) : Option Operand → Nat
  | some o => operandBytes o
  | none => if m ∈ branches then 1 else if m = .jsr then 2 else 0

theorem mode_length_eq (i : Instr) : i.mode.length - 1 = operandLength i.mnemonic (operandOf i) := by
  cases i <;> rfl

theorem Implied.operandLength_eq {m f} (h : Implied m f) : operandLength m none = 0 := by
  cases h with
  | shift h => cases h <;> rfl
  | _ => rfl

/-- The mnemonics that load PC whatever the flags (R24). -/
def jumps : List Mnemonic := [.jmp, .jsr, .rts, .rti, .brk]

/-- A meaning that neither jumps nor takes a branch leaves PC past the operand bytes. -/
theorem Meaning.pc_eq {m o f} (h : Meaning m o f) (s : State) (hj : m ∉ jumps) (hb : branchTaken m s.sr = false) :
    (f s).pc = s.pc + BitVec.ofNat 16 (operandLength m o) := by
  cases h with
  | read h o => obtain ⟨_, _, _, _, e⟩ := h.frame o s; rw [e]; exact resolve_pc false o s
  | store h o => obtain ⟨v, e⟩ := h.eq_storeOperand o s; rw [e, storeOperand_eq]; exact resolve_pc true o s
  | modify => rw [rmwMem_eq]; exact resolve_pc true _ s
  | implied h =>
    obtain ⟨_, _, _, _, _, e⟩ := h.frame s
    rw [e, h.operandLength_eq]; exact (BitVec.add_zero _).symm
  | branch h d => simp only [hb, branch_false, operandLength, if_pos h]; rfl
  | pha | php | pla | plp => exact (BitVec.add_zero _).symm
  | jmpAbs | jmpInd | jsr | rts | brk | rti => exact absurd (by decide) hj

/-- Settles O17: the operand bytes PC passes are the instruction's length less its opcode. -/
theorem pcPassesTheInstruction : Obligations.PcPassesTheInstruction := by
  intro i s hj hb
  obtain ⟨f, hf, hm⟩ := exec_meaning i
  exact ⟨f s, hf s, by rw [mode_length_eq]; exact hm.pc_eq s hj hb⟩

end Sys2Proof.Spec
end

section
/-! PROOFS. Which flags and registers an instruction writes (R22, R23, R25, R29). -/

namespace Sys2Proof.Spec
open Sys2Proof.Machine

/-- From `f` to `g`, a mnemonic changes only the flags whose row of R29 it stands in. -/
def flagsKept (m : Mnemonic) (f g : Flags) : Prop :=
  (m ∉ nzWriters → g.n = f.n ∧ g.z = f.z) ∧
  (m ∉ vWriters → g.v = f.v) ∧
  (m ∉ bWriters → g.b = f.b) ∧
  (m ∉ dWriters → g.d = f.d) ∧
  (m ∉ iWriters → g.i = f.i) ∧
  (m ∉ cWriters → g.c = f.c)

theorem flagsKept_refl (m : Mnemonic) (f : Flags) : flagsKept m f f := by simp [flagsKept]

theorem flagsKept_setNZ {m : Mnemonic} (hm : m ∈ nzWriters) (f : Flags) (v : Byte) : flagsKept m f (f.setNZ v) := by
  simp [flagsKept, hm]

/-- PLP and RTI stand in every row. -/
theorem flagsKept_unflatten {m : Mnemonic} (hm : m = .plp ∨ m = .rti) (f : Flags) (b : Byte) :
    flagsKept m f (Flags.unflatten b) := by
  obtain rfl | rfl := hm <;> simp [flagsKept, nzWriters, vWriters, bWriters, dWriters, iWriters, cWriters]

theorem Reads.keeps_flags {m f} (h : Reads m f) (o : Operand) (s : State) : flagsKept m s.sr (f o s).sr := by
  cases h with
  | lda => rw [lda_eq]; exact flagsKept_setNZ (by decide) _ _
  | ldx => rw [ldx_eq]; exact flagsKept_setNZ (by decide) _ _
  | ldy => rw [ldy_eq]; exact flagsKept_setNZ (by decide) _ _
  | and => rw [andAc_eq]; exact flagsKept_setNZ (by decide) _ _
  | ora => rw [oraAc_eq]; exact flagsKept_setNZ (by decide) _ _
  | eor => rw [eorAc_eq]; exact flagsKept_setNZ (by decide) _ _
  | adc => simp [flagsKept, adc_eq, nzWriters, vWriters, cWriters]
  | sbc => simp [flagsKept, sbc_eq, nzWriters, vWriters, cWriters]
  | cmp => simp [flagsKept, cmp_eq, Flags.compare, nzWriters, cWriters]
  | cpx => simp [flagsKept, cpx_eq, Flags.compare, nzWriters, cWriters]
  | cpy => simp [flagsKept, cpy_eq, Flags.compare, nzWriters, cWriters]
  | bit => simp [flagsKept, bitTestAc_eq, Flags.bitTest, nzWriters, vWriters]

theorem Shifts.writes_nzc {m f} (h : Shifts m f) : m ∈ nzWriters ∧ m ∈ cWriters := by
  cases h <;> decide

theorem flagsKept_afterModify {m f} (h : Modifies m f) (sr : Flags) (v : Byte) :
    flagsKept m sr (sr.afterModify (f v sr.c).1 (f v sr.c).2) := by
  cases h with
  | inc | dec => exact flagsKept_setNZ (by decide) _ _
  | shift h =>
    obtain ⟨hnz, hc⟩ := h.writes_nzc
    unfold Flags.afterModify
    split <;> simp [flagsKept, hnz, hc]

theorem Implied.keeps_flags {m f} (h : Implied m f) (s : State) : flagsKept m s.sr (f s).sr := by
  cases h with
  | tax | tay | txa | tya | tsx | inx | iny | dex | dey => exact flagsKept_setNZ (by decide) _ _
  | txs | nop => exact flagsKept_refl _ _
  | clc | sec => simp [flagsKept, clc_eq, sec_eq, cWriters]
  | cld | sed => simp [flagsKept, cld_eq, sed_eq, dWriters]
  | cli | sei => simp [flagsKept, cli_eq, sei_eq, iWriters]
  | clv => simp [flagsKept, clv_eq, vWriters]
  | shift h => exact flagsKept_afterModify (.shift h) _ _

theorem Meaning.keeps_flags {m o f} (h : Meaning m o f) (s : State) : flagsKept m s.sr (f s).sr := by
  cases h with
  | read h o => exact h.keeps_flags o s
  | store h o => obtain ⟨v, e⟩ := h.eq_storeOperand o s; rw [e, storeOperand_eq]; exact flagsKept_refl _ _
  | modify h => rw [rmwMem_eq]; exact flagsKept_afterModify h _ _
  | implied h => exact h.keeps_flags s
  | branch => rw [branch_sr]; exact flagsKept_refl _ _
  | jmpAbs | jmpInd | jsr | rts | pha | php => exact flagsKept_refl _ _
  | pla => exact flagsKept_setNZ (by decide) _ _
  | plp => exact flagsKept_unflatten (.inl rfl) _ _
  | rti => exact flagsKept_unflatten (.inr rfl) _ _
  | brk => rw [trapEntry_eq]; simp [flagsKept, bWriters]

/-- Settles O14, family by family of the meanings. -/
theorem flagsChangeOnlyByTheirWriters : Obligations.FlagsChangeOnlyByTheirWriters := by
  intro i s
  obtain ⟨f, hf, hm⟩ := exec_meaning i
  exact ⟨f s, hf s, hm.keeps_flags s⟩

/-- The writers of AC by mnemonic and operand form: a shift or rotate writes it where it has no memory operand. -/
def acWriter (m : Mnemonic) (o : Option Operand) : Bool :=
  [.lda, .txa, .tya, .pla, .adc, .sbc, .and, .ora, .eor].contains m || ([.asl, .lsr, .rol, .ror].contains m && o.isNone)

theorem writesAc_eq (i : Instr) : writesAc i = acWriter i.mnemonic (operandOf i) := by
  cases i <;> rfl

/-- From `s` to `t`, a mnemonic changes only the registers whose row of R22 and R23 it stands in. -/
def registersKept (m : Mnemonic) (o : Option Operand) (s t : State) : Prop :=
  (acWriter m o = false → t.ac = s.ac) ∧
  (m ∉ xWriters → t.x = s.x) ∧
  (m ∉ yWriters → t.y = s.y) ∧
  (m ∉ spWriters → t.sp = s.sp)

theorem Reads.keeps_registers {m f} (h : Reads m f) (o : Operand) (s : State) : registersKept m (some o) s (f o s) := by
  cases h with
  | lda | adc | sbc | and | ora | eor =>
    simp [registersKept, acWriter, lda_eq, adc_eq, sbc_eq, andAc_eq, oraAc_eq, eorAc_eq]
  | ldx => simp [registersKept, xWriters, ldx_eq]
  | ldy => simp [registersKept, yWriters, ldy_eq]
  | cmp | cpx | cpy | bit => simp [registersKept, cmp_eq, cpx_eq, cpy_eq, bitTestAc_eq]

theorem Implied.keeps_registers {m f} (h : Implied m f) (s : State) : registersKept m none s (f s) := by
  cases h with
  | txa | tya => simp [registersKept, acWriter, txa_eq, tya_eq]
  | shift h => cases h <;> simp [registersKept, acWriter, rmwAcc_eq]
  | tax | tsx | inx | dex => simp [registersKept, xWriters, tax_eq, tsx_eq, inx_eq, dex_eq]
  | tay | iny | dey => simp [registersKept, yWriters, tay_eq, iny_eq, dey_eq]
  | txs => simp [registersKept, spWriters, txs_eq]
  | clc | cld | cli | clv | sec | sed | sei | nop =>
    simp [registersKept, clc_eq, cld_eq, cli_eq, clv_eq, sec_eq, sed_eq, sei_eq]

theorem Meaning.keeps_registers {m o f} (h : Meaning m o f) (s : State) : registersKept m o s (f s) := by
  cases h with
  | read h o => exact h.keeps_registers o s
  | implied h => exact h.keeps_registers s
  | store h o => obtain ⟨v, e⟩ := h.eq_storeOperand o s; rw [e, storeOperand_eq]; simp [registersKept]
  | modify => rw [rmwMem_eq]; simp [registersKept]
  | jmpAbs | jmpInd => simp [registersKept, jmp_eq]
  | branch => simp [registersKept]
  | pla => simp [registersKept, acWriter, spWriters, pla_eq]
  | jsr | rts | pha | php | plp | brk | rti =>
    simp [registersKept, spWriters, jsr_eq, rts_eq, pha_eq, php_eq, plp_eq, trapEntry_eq, trapReturn_eq]

/-- Settles O15, family by family of the meanings. -/
theorem registersChangeOnlyByTheirWriters : Obligations.RegistersChangeOnlyByTheirWriters := by
  intro i s
  obtain ⟨f, hf, hm⟩ := exec_meaning i
  rw [writesAc_eq]
  exact ⟨f s, hf s, hm.keeps_registers s⟩

end Sys2Proof.Spec
end

section
/-! PROOFS. None but PHP and BRK reads B, D or I (R28), and the layout of the flattened SR (R26, R27). -/

namespace Sys2Proof.Spec
open Sys2Proof.Machine

theorem blind_indexCharge (s : State) (b ea : Word) (w : Bool) :
    (blind s).indexCharge b ea w = blind (s.indexCharge b ea w) := by
  unfold State.indexCharge
  split <;> rfl

theorem resolve_blind (w : Bool) (o : Operand) (s : State) :
    resolve w o (blind s) = ((resolve w o s).1, blind (resolve w o s).2) := by
  cases o with
  | abx | aby => exact Prod.ext rfl (blind_indexCharge s.consume.consume _ _ w)
  | izy => exact Prod.ext rfl (blind_indexCharge ((s.consume.tick 1).tick 1) _ _ w)
  | _ => rfl

theorem readOperand_blind (o : Operand) (s : State) :
    readOperand o (blind s) = ((readOperand o s).1, blind (readOperand o s).2) := by
  cases o <;> simp only [readOperand, resolve_blind] <;> rfl

theorem Reads.blind_eq {m f} (h : Reads m f) (o : Operand) (s : State) : blind (f o (blind s)) = blind (f o s) := by
  cases h <;> simp only [lda_eq, ldx_eq, ldy_eq, adc_eq, sbc_eq, cmp_eq, cpx_eq, cpy_eq, andAc_eq, oraAc_eq, eorAc_eq,
    bitTestAc_eq, resolve_blind, readOperand_blind] <;> rfl

theorem Stores.blind_eq {m f} (h : Stores m f) (o : Operand) (s : State) : blind (f o (blind s)) = blind (f o s) := by
  cases h <;> simp only [sta_eq, stx_eq, sty_eq, resolve_blind] <;> rfl

/-- What a read-modify-write does to the flags does not turn on B, D and I. -/
theorem blind_afterModify (s : State) (r : Byte) (c : Option Bool) :
    blind { s with sr := (blind s).sr.afterModify r c } = blind { s with sr := s.sr.afterModify r c } := by
  cases c <;> rfl

theorem blind_rmwMem (f : Modify) (o : Operand) (s : State) : blind (rmwMem f o (blind s)) = blind (rmwMem f o s) := by
  simp only [rmwMem_eq, resolve_blind]
  exact blind_afterModify { s with pc := _, cyc := _, mem := _ } _ _

theorem Implied.blind_eq {m f} (h : Implied m f) (s : State) : blind (f (blind s)) = blind (f s) := by
  cases h with
  | shift => exact blind_afterModify { s with cyc := _, ac := _ } _ _
  | _ => rfl

theorem branchTaken_blind (m : Mnemonic) (s : State) : branchTaken m (blind s).sr = branchTaken m s.sr := by
  cases m <;> rfl

theorem blind_branch (taken : Bool) (d : Byte) (s : State) :
    blind (branch taken d (blind s)) = blind (branch taken d s) := by
  cases taken with
  | false => rfl
  | true => simp only [branch_true]; rfl

theorem Meaning.blind_eq {m o f} (h : Meaning m o f) (hm : m ∉ [Mnemonic.php, .brk]) (s : State) :
    blind (f (blind s)) = blind (f s) := by
  cases h with
  | read h o => exact h.blind_eq o s
  | store h o => exact h.blind_eq o s
  | modify => exact blind_rmwMem _ _ s
  | implied h => exact h.blind_eq s
  | branch h d => simp only [branchTaken_blind]; exact blind_branch _ d s
  | php | brk => exact absurd (by decide) hm
  | jmpAbs | jmpInd | jsr | rts | pha | pla | plp | rti => rfl

theorem mnemonic_eq_brk {i : Instr} (h : i.mnemonic = .brk) : i = .brk := by
  cases i with
  | brk => rfl
  | _ => cases h

/-- Settles O18: both runs agree with the one from the blinded state; the writers are those of R29's matrix. -/
theorem nothingReadsBreakDecimalInterrupt : Obligations.NothingReadsBreakDecimalInterrupt := by
  refine ⟨fun i s u hi hsu => ?_, fun i s => ?_⟩
  · obtain ⟨f, hf, hm⟩ := exec_meaning i
    refine ⟨f s, f u, hf s, hf u, ?_⟩
    calc blind (f s)
      _ = blind (f (blind s)) := (hm.blind_eq hi s).symm
      _ = blind (f (blind u)) := by rw [hsu]
      _ = blind (f u) := hm.blind_eq hi u
  · obtain ⟨f, hf, hm⟩ := exec_meaning i
    obtain ⟨-, -, hb, hd, hI, -⟩ := hm.keeps_flags s
    refine ⟨f s, hf s, hd, hI, hb, fun hbrk => ?_⟩
    obtain rfl := mnemonic_eq_brk hbrk
    rw [← Host.Outcome.next.inj (hf s)]
    rfl

theorem flatten_toNat (f : Flags) : f.flatten.toNat = 128 * f.n.toNat + 64 * f.v.toNat + 32 + 16 * f.b.toNat +
    8 * f.d.toNat + 4 * f.i.toNat + 2 * f.z.toNat + f.c.toNat := by
  obtain ⟨n, v, b, d, i, z, c⟩ := f
  decide +revert

theorem unflatten_flatten (f : Flags) : Flags.unflatten f.flatten = f := by
  obtain ⟨n, v, b, d, i, z, c⟩ := f
  decide +revert

theorem flatten_unflatten (b : Byte) : (Flags.unflatten b).flatten = b ||| 0x20 := by
  decide +revert

theorem stackCell_eq (sp : Byte) : stackCell sp = (stackAddr sp).toNat := (stackAddr_toNat sp).symm

theorem sub_two_eq (b : Byte) : b - 2 = b - 1 - 1 := by bv_omega

/-- Settles O50: the laws of Flatten and Unflatten, and the stack cell each of the four instructions uses. -/
theorem flattenAndUnflattenLayout : Obligations.FlattenAndUnflattenLayout := by
  refine ⟨flatten_toNat, fun _ => rfl, flatten_unflatten, unflatten_flatten, rfl, fun s => ⟨?_, ?_, ?_, ?_, rfl⟩⟩
  · exact ⟨_, exec_php s, by rw [stackCell_eq]; exact Memory.read_write_same _ _ _⟩
  · exact ⟨_, exec_brk s, by rw [sub_two_eq, stackCell_eq, trapEntry_eq]; exact Memory.read_write_same _ _ _⟩
  · exact ⟨_, exec_plp s, by rw [stackCell_eq]; rfl⟩
  · exact ⟨_, exec_rti s, by rw [stackCell_eq]; rfl⟩

end Sys2Proof.Spec
end

section
/-! PROOFS. The laws of the bus (R41): what one access, and a sequence of them, leaves in a cell and in the rest of the
state. -/

namespace Sys2Proof.Spec
open Sys2Proof.Machine

/-- A read after a write, at any two addresses. -/
theorem memRead_memWrite (s : State) (a b : Word) (v : Byte) :
    ((s.memWrite a v).memRead b).1 = if b = a then v else (s.memRead b).1 := by
  simp only [memRead_value, memWrite_mem, Memory.read_write, BitVec.toNat_inj]

theorem memWrite_memWrite_sameMemory (s : State) (a : Word) (v w : Byte) :
    sameMemory ((s.memWrite a w).memWrite a v) (s.memWrite a v) := by
  intro n
  simp only [cell, memWrite_mem, Memory.read_write]
  split <;> rfl

/-- Settles O51: the cell that is written, and the other cells, by one law of a read after a write. -/
theorem memoryReadAfterWrite : Obligations.MemoryReadAfterWrite := by
  intro s a b v w
  refine ⟨?_, fun hb => ?_, memWrite_memWrite_sameMemory s a v w, rfl⟩
  · rw [memRead_memWrite, if_pos rfl]
  · rw [memRead_memWrite, if_neg hb]

/-- The byte an access leaves at `b`, if it writes there. -/
def writeTo (b : Word) (x : Word × Option Byte) : Option Byte := if x.1 = b then x.2 else none

theorem latestWrite_cons (b : Word) (x : Word × Option Byte) (rest : List (Word × Option Byte)) :
    latestWrite b (x :: rest) = (latestWrite b rest).or (writeTo b x) := by
  simp only [latestWrite, writeTo]
  cases latestWrite b rest <;> rfl

theorem access_memRead (s : State) (x : Word × Option Byte) (b : Word) :
    ((access s x).memRead b).1 = (writeTo b x).getD (s.memRead b).1 := by
  obtain ⟨a, _ | v⟩ := x
  case none => simp [access, writeTo]
  case some =>
    rw [access, memRead_memWrite, writeTo]
    by_cases h : a = b
    · simp [h]
    · simp [h, Ne.symm h]

theorem foldl_access_memRead (s : State) (accesses : List (Word × Option Byte)) (b : Word) :
    ((accesses.foldl access s).memRead b).1 = (latestWrite b accesses).getD (s.memRead b).1 := by
  induction accesses generalizing s with
  | nil => rfl
  | cons x rest ih =>
    calc ((rest.foldl access (access s x)).memRead b).1
      _ = (latestWrite b rest).getD ((access s x).memRead b).1 := ih (access s x)
      _ = (latestWrite b rest).getD ((writeTo b x).getD (s.memRead b).1) := by rw [access_memRead]
      _ = (latestWrite b (x :: rest)).getD (s.memRead b).1 := by rw [latestWrite_cons, Option.getD_or]

/-- An access changes memory and CYC alone. -/
theorem access_eq (s : State) (x : Word × Option Byte) :
    access s x = { s with mem := (access s x).mem, cyc := (access s x).cyc } := by
  obtain ⟨a, _ | v⟩ := x <;> rfl

theorem foldl_access_eq (s : State) (accesses : List (Word × Option Byte)) :
    accesses.foldl access s =
      { s with mem := (accesses.foldl access s).mem, cyc := (accesses.foldl access s).cyc } := by
  induction accesses generalizing s with
  | nil => rfl
  | cons x rest ih =>
    have h := ih (access s x)
    rw [access_eq s x] at h
    rw [List.foldl_cons, access_eq s x]
    exact h

theorem foldl_access_mem_of_reads (s : State) (accesses : List (Word × Option Byte)) (h : ∀ x ∈ accesses, x.2 = none) :
    (accesses.foldl access s).mem = s.mem := by
  induction accesses generalizing s with
  | nil => rfl
  | cons x rest ih =>
    obtain ⟨a, o⟩ := x
    obtain ⟨rfl, hrest⟩ := List.forall_mem_cons.mp h
    exact ih (access s (a, none)) hrest

/-- Settles O59, by induction on the sequence of accesses. -/
theorem readGivesTheLatestWrite : Obligations.ReadGivesTheLatestWrite := by
  intro s accesses b t
  have ht : t = { s with mem := t.mem, cyc := t.cyc } := foldl_access_eq s accesses
  refine ⟨foldl_access_memRead s accesses b, ?_, ?_, ?_, fun hreads => ?_⟩
  · rw [ht]
  · rw [ht]; exact ⟨rfl, rfl, rfl, rfl⟩
  · rw [ht]
  · have hmem : t.mem = s.mem := foldl_access_mem_of_reads s accesses hreads
    rw [hmem] at ht
    exact ht

end Sys2Proof.Spec
end

section
/-! PROOFS. Which instructions write memory (R41, R45). -/

namespace Sys2Proof.Spec
open Sys2Proof.Machine

/-- The writers of memory by mnemonic and operand form: a shift or rotate writes it where it has a memory operand. -/
def memWriter (m : Mnemonic) (o : Option Operand) : Bool :=
  [.sta, .stx, .sty, .inc, .dec, .pha, .php, .jsr, .brk].contains m || ([.asl, .lsr, .rol, .ror].contains m && o.isSome)

theorem writesMemory_eq (i : Instr) : writesMemory i = memWriter i.mnemonic (operandOf i) := by
  cases i <;> rfl

theorem Stores.memWriter_eq {m f} (h : Stores m f) (o : Operand) : memWriter m (some o) = true := by
  cases h <;> rfl

theorem Modifies.memWriter_eq {m f} (h : Modifies m f) (o : Operand) : memWriter m (some o) = true := by
  cases h with
  | inc | dec => rfl
  | shift h => cases h <;> rfl

/-- A meaning that is no store, read-modify-write or push leaves the memory list itself. -/
theorem Meaning.mem_eq {m o f} (h : Meaning m o f) (hw : memWriter m o = false) (s : State) : (f s).mem = s.mem := by
  cases h with
  | read h o => obtain ⟨_, _, _, _, e⟩ := h.frame o s; rw [e]
  | implied h => obtain ⟨_, _, _, _, _, e⟩ := h.frame s; rw [e]
  | branch => exact branch_mem _ _ s
  | jmpAbs | jmpInd | rts | pla | plp | rti => rfl
  | store h | modify h => exact absurd (h.memWriter_eq _) (Bool.eq_false_iff.mp hw)
  | jsr | pha | php | brk => exact absurd hw (by decide)

/-- Settles O16, family by family of the meanings. -/
theorem memoryChangesOnlyByStores : Obligations.MemoryChangesOnlyByStores := by
  intro i s hw
  obtain ⟨f, hf, hm⟩ := exec_meaning i
  rw [writesMemory_eq] at hw
  exact ⟨f s, hf s, fun n => congrArg (Memory.read · n) (hm.mem_eq hw s)⟩

end Sys2Proof.Spec
end

section
/-! PROOFS. A store to the next opcode byte: STA absolute as a whole step (R51, R105, R123). -/

namespace Sys2Proof.Spec
open Sys2Proof.Machine

theorem join_toNat (h l : Byte) : (join h l).toNat = 256 * h.toNat + l.toNat := by
  rw [join, BitVec.toNat_append, Nat.shiftLeft_eq, Nat.mul_comm, ← Nat.two_pow_add_eq_or_of_lt l.isLt]

theorem step_of_decode {s : State} {i : Instr} {rest : List Byte} (h : decode s.fetchBytes = .ok (i, rest)) :
    step s = exec i s.afterOpcodeFetch := by
  simp only [step, h]

/-- STA absolute writes AC at its address and moves PC past its two operand bytes. -/
theorem sta_abs_eq (a : Word) (s : State) :
    sta (.abs a) s = { s with pc := s.pc + 1 + 1, cyc := s.cyc + 1 + 1 + 1, mem := Memory.write s.mem a.toNat s.ac } :=
  sta_eq (.abs a) s

/-- A step over STA absolute, as the whole next state. -/
theorem step_sta_abs {s : State} {l h : Byte} (hb : s.fetchBytes = [0x8D, l, h]) :
    step s = .next { s with pc := s.pc + 3, cyc := s.cyc + 4, mem := Memory.write s.mem (256 * h.toNat + l.toNat) s.ac } := by
  have hd : decode s.fetchBytes = .ok (.staAbs (join h l), []) := by rw [hb]; exact decode_word l h [] rfl
  have hpc : s.pc + 1 + 1 + 1 = s.pc + 3 := by bv_omega
  rw [step_of_decode hd, exec_staAbs, sta_abs_eq, afterOpcodeFetch_eq, join_toNat]
  simp only [hpc]

/-- Settles O52: the next opcode byte is a read after the write of AC. -/
theorem storeIsSeenByTheNextFetch : Obligations.StoreIsSeenByTheNextFetch := by
  intro s l h hb
  exact ⟨_, step_sta_abs hb, rfl, Memory.read_write _ _ _ _⟩

end Sys2Proof.Spec
end

section
/-! PROOFS. The decoder and the encoder are inverse (R60 to R67): both are read as "the table entry of an opcode builds
an instruction from operand bytes", and the encoder is compared with the table one cell at a time. -/

namespace Sys2Proof

/-- An entry builds an instruction from operand bytes, the low byte of a word first (R60, R62). -/
inductive Entry.Builds : Entry → Instr → List Byte → Prop
  | bare (i : Instr) : Builds (.bare i) i []
  | byte (f : Byte → Instr) (b : Byte) : Builds (.byte f) (f b) [b]
  | word (f : Word → Instr) (a : Word) : Builds (.word f) (f a) [lo a, hi a]

theorem decode_of_builds {op : Byte} {e : Entry} {i : Instr} {operands : List Byte} (rest : List Byte)
    (he : tableEntry op = some e) (h : e.Builds i operands) : decode (op :: operands ++ rest) = .ok (i, rest) := by
  cases h with
  | bare i => exact decode_bare rest he
  | byte f b => exact decode_byte b rest he
  | word f a => exact (decode_word (lo a) (hi a) rest he).trans (by rw [join_hi_lo])

/-- The inversion of the decoder: a decoded instruction was built by the entry of the first byte. -/
theorem builds_of_decode {bytes rest : List Byte} {i : Instr} (h : decode bytes = .ok (i, rest)) :
    ∃ op e operands, tableEntry op = some e ∧ e.Builds i operands ∧ bytes = op :: operands ++ rest := by
  fun_cases decode bytes with
  | case1 => cases h
  | case2 op tail he => cases (decode_noEntry tail he).symm.trans h
  | case3 op tail j he =>
    cases (decode_bare tail he).symm.trans h
    exact ⟨op, _, [], he, .bare _, rfl⟩
  | case4 op f he b tail =>
    cases (decode_byte b tail he).symm.trans h
    exact ⟨op, _, [b], he, .byte f b, rfl⟩
  | case5 op f he => simp [decode, he] at h
  | case6 op f he l hb tail =>
    cases (decode_word l hb tail he).symm.trans h
    exact ⟨op, _, _, he, .word f _, by rw [lo_join, hi_join]; rfl⟩
  | case7 op tail f he ht => simp [decode, he] at h

/-- Each instruction is built by the entry that stands in the table at its opcode (R63 against R64). -/
theorem encode_builds (i : Instr) :
    ∃ op e operands, tableEntry op = some e ∧ e.Builds i operands ∧ encode i = op :: operands := by
  cases i with
  | tax | tay | txa | tya | tsx | txs | aslAcc | lsrAcc | rolAcc | rorAcc | inx | iny | dex | dey | clc | cld | cli
  | clv | sec | sed | sei | nop | rts | pha | php | pla | plp | brk | rti =>
    exact ⟨_, _, _, rfl, .bare _, rfl⟩
  | ldaImm | ldaZp | ldaZpx | ldaIzx | ldaIzy | ldxImm | ldxZp | ldxZpy | ldyImm | ldyZp | ldyZpx | staZp | staZpx
  | staIzx | staIzy | stxZp | stxZpy | styZp | styZpx | adcImm | adcZp | adcZpx | adcIzx | adcIzy | sbcImm | sbcZp
  | sbcZpx | sbcIzx | sbcIzy | cmpImm | cmpZp | cmpZpx | cmpIzx | cmpIzy | cpxImm | cpxZp | cpyImm | cpyZp | andImm
  | andZp | andZpx | andIzx | andIzy | oraImm | oraZp | oraZpx | oraIzx | oraIzy | eorImm | eorZp | eorZpx | eorIzx
  | eorIzy | bitZp | aslZp | aslZpx | lsrZp | lsrZpx | rolZp | rolZpx | rorZp | rorZpx | incZp | incZpx | decZp
  | decZpx | bcc | bcs | beq | bmi | bne | bpl | bvc | bvs =>
    exact ⟨_, _, _, rfl, .byte _ _, rfl⟩
  | ldaAbs | ldaAbx | ldaAby | ldxAbs | ldxAby | ldyAbs | ldyAbx | staAbs | staAbx | staAby | stxAbs | styAbs
  | adcAbs | adcAbx | adcAby | sbcAbs | sbcAbx | sbcAby | cmpAbs | cmpAbx | cmpAby | cpxAbs | cpyAbs | andAbs
  | andAbx | andAby | oraAbs | oraAbx | oraAby | eorAbs | eorAbx | eorAby | bitAbs | aslAbs | aslAbx | lsrAbs
  | lsrAbx | rolAbs | rolAbx | rorAbs | rorAbx | incAbs | incAbx | decAbs | decAbx | jmpAbs | jmpInd | jsr =>
    exact ⟨_, _, _, rfl, .word _ _, rfl⟩

/-- Whatever the entry builds is encoded with this opcode (R64 against R63). -/
def Entry.EncodedAs (op : Byte) (e : Entry) : Prop :=
  ∀ i operands, e.Builds i operands → encode i = op :: operands

/-- Every cell of the dispatch table against the encoder, by its row and column. A cell with no entry asks for nothing;
what any other builds is encoded with the opcode of its place. -/
theorem opTable_encodedAs : ∀ row ∈ opTable.zipIdx, ∀ c ∈ row.1.zipIdx, ∀ e ∈ c.1,
    e.EncodedAs (BitVec.ofNat 8 (16 * row.2 + c.2)) := by
  simp only [opTable, opRow0, opRow1, opRow2, opRow3, opRow4, opRow5, opRow6, opRow7, opRow8, opRow9, opRowA, opRowB,
    opRowC, opRowD, opRowE, opRowF, List.cons_append, List.nil_append, List.zipIdx_cons, List.zipIdx_nil,
    List.forall_mem_cons]
  and_intros
  all_goals rintro _ ⟨⟩ _ _ ⟨⟩ <;> rfl

theorem tableEntry_eq_some {op : Byte} {e : Entry} (h : tableEntry op = some e) :
    ∃ row, opTable[op.toNat / 16]? = some row ∧ row[op.toNat % 16]? = some (some e) := by
  unfold tableEntry at h
  split at h
  next => cases h
  next row hrow =>
    split at h
    next => cases h
    next _ hcell => exact ⟨row, hrow, hcell.trans (congrArg some h)⟩

theorem tableEntry_encodedAs {op : Byte} {e : Entry} (h : tableEntry op = some e) : e.EncodedAs op := by
  obtain ⟨row, hrow, hcell⟩ := tableEntry_eq_some h
  have he : e.EncodedAs (BitVec.ofNat 8 (16 * (op.toNat / 16) + op.toNat % 16)) :=
    opTable_encodedAs (row, op.toNat / 16) (List.mem_zipIdx_iff_getElem?.mpr hrow) (some e, op.toNat % 16)
      (List.mem_zipIdx_iff_getElem?.mpr hcell) e rfl
  rwa [Nat.div_add_mod, BitVec.ofNat_toNat, BitVec.setWidth_eq] at he

/-- Settles O1: the entry at the instruction's opcode builds it, from its operand bytes. -/
theorem decodeEncodeRoundTrip : Obligations.DecodeEncodeRoundTrip := by
  intro i rest
  obtain ⟨op, e, operands, he, hb, h⟩ := encode_builds i
  rw [h]
  exact decode_of_builds rest he hb

/-- Settles O2: the entry that built the instruction stands at the opcode the encoder gives it. -/
theorem encodeDecodeRoundTrip : Obligations.EncodeDecodeRoundTrip := by
  intro bytes rest i h
  obtain ⟨op, e, operands, he, hb, rfl⟩ := builds_of_decode h
  rw [tableEntry_encodedAs he i operands hb]

end Sys2Proof
end

section
/-! PROOFS. The decoder and the encoder against the spec's own tables: the opcode map (R63), the list of the bytes with
no entry (R65), and the words written out from the tables (R64, R67). -/

namespace Sys2Proof.Spec

theorem opcodeOf_eq_lookup (i : Instr) : opcodeOf i = (opcodeCells i.mnemonic).lookup i.mode := by
  cases i <;> rfl

theorem opcodeOf_of_decode {op : Byte} {tail rest : List Byte} {i : Instr} (h : decode (op :: tail) = .ok (i, rest)) :
    opcodeOf i = some op := by
  obtain ⟨_, _, _, he, hb, hbytes⟩ := builds_of_decode h
  obtain ⟨rfl, -⟩ := List.cons.inj hbytes
  rw [opcodeOf, tableEntry_encodedAs he _ _ hb, List.head?_cons]

/-- The opcode in each cell of the map, with zeros for operand bytes, decodes in its own row and column. -/
theorem decode_opcodeCells (m : Mnemonic) : ∀ c ∈ opcodeCells m,
    (decode [c.2, 0, 0]).map (fun d => (d.1.mnemonic, d.1.mode)) = .ok (m, c.1) := by
  cases m <;> decide

/-- Settles O3: the instruction a cell stands for is the one its opcode decodes to. -/
theorem opcodeMapIsTheTable : Obligations.OpcodeMapIsTheTable := by
  refine ⟨opcodeOf_eq_lookup, fun m mode op hc => ?_⟩
  have hd := decode_opcodeCells m (mode, op) hc
  cases h : decode [op, 0, 0] with
  | error =>
    rw [h] at hd
    cases hd
  | ok d =>
    rw [h] at hd
    cases hd
    exact ⟨d.1, rfl, rfl, opcodeOf_of_decode h⟩

/-- The list of R65 is what the dispatch table leaves out, in ascending order. -/
theorem illegalOpcodes_eq :
    illegalOpcodes = ((List.range 256).map (BitVec.ofNat 8)).filter fun op => (tableEntry op).isNone := by
  decide

theorem tableEntry_eq_none_iff (op : Byte) : tableEntry op = none ↔ op ∈ illegalOpcodes := by
  have hop : op ∈ (List.range 256).map (BitVec.ofNat 8) :=
    List.mem_map.mpr ⟨op.toNat, List.mem_range.mpr op.isLt, by simp⟩
  rw [illegalOpcodes_eq, List.mem_filter, Option.isNone_iff_eq_none, and_iff_right hop]

/-- Settles O4: the 105 bytes are those with no entry in the dispatch table. -/
theorem illegalOpcodesAreRejected : Obligations.IllegalOpcodesAreRejected := by
  refine ⟨fun op rest h => decode_noEntry rest ((tableEntry_eq_none_iff op).mpr h), fun op x y h => ?_⟩
  obtain hok | ⟨hnone, -⟩ := decode_three op x y
  · exact hok
  · exact absurd ((tableEntry_eq_none_iff op).mp hnone) h

/-- Settles O5: each word is the encoding of its instruction. -/
theorem specWordsDecode : Obligations.SpecWordsDecode :=
  ⟨decodeEncodeRoundTrip (.ldaAbs 0x0200) [], decodeEncodeRoundTrip (.staAby 0x0300) [],
    decodeEncodeRoundTrip (.adcAbx 0x44FF) [], decodeEncodeRoundTrip (.ldaIzx 0x20) [],
    decodeEncodeRoundTrip (.eorImm 0xFF) [], decodeEncodeRoundTrip .aslAcc [], decodeEncodeRoundTrip .clc [],
    decodeEncodeRoundTrip (.jmpInd 0x02FF) [], decodeEncodeRoundTrip (.bne 0x10) [], decodeEncodeRoundTrip .brk []⟩

end Sys2Proof.Spec
end

section
/-! PROOFS. A step through the decoder (R81, R83), and over the table word stored where it fetches (log 2). -/

namespace Sys2Proof.Spec
open Sys2Proof.Machine

/-- Settles O6: the three bytes are those a step fetches. -/
theorem stepRunsTheDecodedInstruction : Obligations.StepRunsTheDecodedInstruction := by
  intro s i rest h
  exact step_of_decode h

theorem step_of_noEntry {s : State} (h : tableEntry s.opcodeAt = none) :
    step s = .fault (.programmingFault .noEntry s.opcodeAt s.pc) := by
  obtain ⟨i, rest, hd, -⟩ | ⟨-, hf⟩ := step_cases s
  · cases (decode_noEntry _ h).symm.trans hd
  · exact hf

theorem step_of_entry {s : State} (h : tableEntry s.opcodeAt ≠ none) : ∃ t, step s = .next t := by
  obtain ⟨i, rest, -, hi⟩ | ⟨hn, -⟩ := step_cases s
  · obtain ⟨f, hexec, -⟩ := exec_meaning i
    exact ⟨_, hi.trans (hexec _)⟩
  · exact absurd hn h

/-- Settles O7: the 105 bytes are those with no entry in the table, and whatever an entry builds completes. -/
theorem stepIsTotalAndFaultsOnlyOnIllegalOpcodes : Obligations.StepIsTotalAndFaultsOnlyOnIllegalOpcodes := by
  intro s
  have hiff : tableEntry s.opcodeAt = none ↔ cell s s.pc.toNat ∈ illegalOpcodes := tableEntry_eq_none_iff _
  exact ⟨fun h => step_of_noEntry (hiff.mpr h), fun h => step_of_entry (mt hiff.mp h)⟩

theorem read_bulkWrite_three (m : Memory) (a : Word) (x y z : Byte) (n : Nat) :
    Memory.read (Memory.bulkWrite m a [x, y, z]) n =
      if n = (a + 2).toNat then z else if n = (a + 1).toNat then y else if n = a.toNat then x else Memory.read m n := by
  have ha : a + 1 + 1 = a + 2 := by bv_omega
  simp only [Memory.bulkWrite, Memory.read_write, ha]

/-- The three fetch addresses differ, also where they wrap. -/
theorem withFetchWord_fetchBytes (s : State) (nbits w : Nat) :
    (s.withFetchWord nbits w).fetchBytes = tableBytes nbits w := by
  have h01 : s.pc.toNat ≠ (s.pc + 1).toNat := by bv_omega
  have h02 : s.pc.toNat ≠ (s.pc + 2).toNat := by bv_omega
  have h12 : (s.pc + 1).toNat ≠ (s.pc + 2).toNat := by bv_omega
  simp only [State.fetchBytes, State.withFetchWord, tableBytes, read_bulkWrite_three, h01, h02, h12, if_true, if_false]

theorem withFetchWord_cell (s : State) (nbits w : Nat) {n : Nat} (h0 : n ≠ s.pc.toNat) (h1 : n ≠ (s.pc + 1).toNat)
    (h2 : n ≠ (s.pc + 2).toNat) : cell (s.withFetchWord nbits w) n = cell s n := by
  simp only [cell, State.withFetchWord, tableBytes, read_bulkWrite_three, h0, h1, h2, if_false]

theorem decode_of_decodeTableWord {nbits w : Nat} {i : Instr} (h : decodeTableWord nbits w = some i) :
    ∃ rest, decode (tableBytes nbits w) = .ok (i, rest) := by
  unfold decodeTableWord at h
  split at h
  next j rest hd =>
    obtain rfl := Option.some.inj h
    exact ⟨rest, hd⟩
  next => cases h

/-- Settles O9: the three bytes of the word are what the step fetches. -/
theorem fetchWordRunsFirst : Obligations.FetchWordRunsFirst := by
  intro s nbits w i h
  obtain ⟨rest, hd⟩ := decode_of_decodeTableWord h
  rw [← withFetchWord_fetchBytes s] at hd
  exact ⟨step_of_decode hd, fun _ => withFetchWord_cell s nbits w⟩

end Sys2Proof.Spec
end

section
/-! PROOFS. One turn of the loop, the default policy and the observation (R80, R84 to R86). -/

namespace Sys2Proof.Spec
open Sys2Proof.Machine

theorem loopTurn_of_halt {halt : State → Bool} {s : State} (h : halt s = true) :
    loopTurn halt { st := s, cond := .running } = { st := s, cond := .halted } := by
  simp only [loopTurn, h, if_true]

theorem loopTurn_of_next {halt : State → Bool} {s t : State} (h : halt s = false) (hstep : step s = .next t) :
    loopTurn halt { st := s, cond := .running } = { st := t, cond := .running } := by
  simp [loopTurn, h, hstep]

theorem loopTurn_of_ended (halt : State → Bool) {m : Session} (h : m.cond ≠ .running) : loopTurn halt m = m := by
  unfold loopTurn
  split
  next hc => exact absurd hc h
  next => rfl
  next => rfl

theorem runLoop_of_ended (halt : State → Bool) (fuel : Nat) {m : Session} (h : m.cond ≠ .running) :
    runLoop halt fuel m = m := by
  induction fuel with
  | zero => rfl
  | succ fuel ih => rw [runLoop, loopTurn_of_ended halt h, ih]

/-- Settles O55: one turn by the policy's answer, and any number of turns after the end by induction. -/
theorem loopTestsHaltThenSteps : Obligations.LoopTestsHaltThenSteps := by
  intro halt s t c fuel
  exact ⟨loopTurn_of_halt, loopTurn_of_next, fun hc => runLoop_of_ended halt fuel hc⟩

theorem haltDefault_eq_true_iff (la : Word) (n : Nat) (s : State) :
    haltDefault la n s = true ↔ n ≤ (s.pc.toNat + (65536 - la.toNat)) % 65536 := by
  have hsub : (s.pc - la).toNat = (s.pc.toNat + (65536 - la.toNat)) % 65536 := by bv_omega
  rw [haltDefault, decide_eq_true_iff, hsub]

theorem haltDefault_empty (la : Word) (s : State) : haltDefault la 0 s = true :=
  (haltDefault_eq_true_iff la 0 s).mpr (Nat.zero_le _)

/-- No address is outside an image that fills the memory. -/
theorem haltDefault_full (la : Word) (s : State) : haltDefault la 65536 s = false :=
  decide_eq_false (Nat.not_le.mpr (s.pc - la).isLt)

/-- Settles O57: the difference of two words in plain arithmetic, and the loop's turn under this policy. -/
theorem defaultHaltIsOutsideTheImage : Obligations.DefaultHaltIsOutsideTheImage := by
  refine ⟨haltDefault_eq_true_iff, fun la s => ⟨?_, ?_⟩, fun la n s t => ⟨loopTurn_of_halt, loopTurn_of_next⟩⟩
  · exact haltDefault_empty la s
  · exact haltDefault_full la s

/-- Settles O58: the observation is read off the run condition, one case each. -/
theorem haltedRunIsObserved : Obligations.HaltedRunIsObserved := by
  intro s
  exact ⟨rfl, fun _ _ => rfl, rfl⟩

end Sys2Proof.Spec
end

section
/-! PROOFS. Bytes and words as numbers: pages, zero-page and indexed sums, pointers (R12, R43, R103, R106). -/

namespace Sys2Proof.Spec
open Sys2Proof.Machine

theorem zext16_toNat (b : Byte) : (zext16 b).toNat = b.toNat :=
  BitVec.toNat_setWidth_of_le (by decide)

theorem zext16_eq (b : Byte) : zext16 b = BitVec.ofNat 16 b.toNat :=
  BitVec.eq_of_toNat_eq (by rw [zext16_toNat, BitVec.toNat_ofNat]; omega)

/-- The displacement of a branch is signed (R62). -/
theorem sext16_eq (d : Byte) : sext16 d = BitVec.ofInt 16 d.toInt := rfl

theorem join_eq (h l : Byte) : join h l = BitVec.ofNat 16 (256 * h.toNat + l.toNat) := by
  rw [← join_toNat, BitVec.ofNat_toNat, BitVec.setWidth_eq]

/-- The high byte of an address is its page. -/
theorem hi_toNat (w : Word) : (hi w).toNat = w.toNat / 256 := by
  have h := join_toNat (hi w) (lo w)
  rw [join_hi_lo] at h
  omega

theorem lo_toNat (w : Word) : (lo w).toNat = w.toNat % 256 := by
  have h := join_toNat (hi w) (lo w)
  rw [join_hi_lo] at h
  omega

/-- "crossing a page means the high byte changes" (R12). -/
theorem hi_bne_hi (v w : Word) : (hi v != hi w) = decide (v.toNat / 256 ≠ w.toNat / 256) := by
  rw [Bool.eq_iff_iff, bne_iff_ne, decide_eq_true_iff, ← hi_toNat, ← hi_toNat]
  exact BitVec.toNat_inj.symm.not

/-- A zero-page sum wraps within page 0 (R103). -/
theorem zext16_add (b x : Byte) : zext16 (b + x) = BitVec.ofNat 16 ((b.toNat + x.toNat) % 256) := by
  rw [zext16_eq, BitVec.toNat_add]

/-- An indexed sum wraps modulo 65536 (R106). -/
theorem add_zext16 (a : Word) (x : Byte) : a + zext16 x = BitVec.ofNat 16 ((a.toNat + x.toNat) % 65536) :=
  BitVec.eq_of_toNat_eq (by rw [BitVec.toNat_add, zext16_toNat, BitVec.toNat_ofNat, Nat.mod_mod])

/-- The second cell of a pointer in page 0 (R109, R110). -/
theorem zext16_add_one_toNat (b : Byte) : (zext16 (b + 1)).toNat = (b.toNat + 1) % 256 := by
  rw [zext16_toNat, BitVec.toNat_add]
  rfl

/-- The second cell of a pointer that wraps in its page (R108). -/
theorem samePageNext_toNat (p : Word) :
    (samePageNext p).toNat = p.toNat / 256 * 256 + (p.toNat % 256 + 1) % 256 := by
  rw [samePageNext, join_toNat, hi_toNat, BitVec.toNat_add, lo_toNat, Nat.mul_comm]
  rfl

/-- Two bytes read from memory are the 16-bit number in their cells (R43). -/
theorem join_read (s : State) (low high : Nat) :
    join (Memory.read s.mem high) (Memory.read s.mem low) = BitVec.ofNat 16 (word16 s low high) :=
  join_eq _ _

end Sys2Proof.Spec
end

section
/-! PROOFS. The ten resolvers in plain arithmetic (R100 to R111, R115): the address of each operand form, then the
operand bytes it passes and the cycles it charges. -/

namespace Sys2Proof.Spec
open Sys2Proof.Machine

theorem word16_toNat (s : State) (low high : Nat) :
    (BitVec.ofNat 16 (word16 s low high)).toNat = word16 s low high := by
  rw [← join_read, join_toNat]
  rfl

/-- Each operand form's effective address (R101 to R111). -/
theorem resolve_address (w : Bool) (o : Operand) (s : State) : (resolve w o s).1 = address o s := by
  cases o with
  | imm | abs => rfl
  | zp b => exact zext16_eq b
  | zpx b => exact zext16_add b s.x
  | zpy b => exact zext16_add b s.y
  | abx a => exact add_zext16 a s.x
  | aby a => exact add_zext16 a s.y
  | ind p =>
    rw [address, ← samePageNext_toNat]
    exact join_read s _ _
  | izx b =>
    have hp : (zext16 (b + s.x)).toNat = (b.toNat + s.x.toNat) % 256 := by
      rw [zext16_toNat, BitVec.toNat_add]
    have hq : (zext16 (b + s.x + 1)).toNat = (b.toNat + s.x.toNat + 1) % 256 := by
      rw [zext16_add_one_toNat, BitVec.toNat_add, Nat.mod_add_mod]
    rw [address, ← hp, ← hq]
    exact join_read s _ _
  | izy b =>
    rw [address, ← word16_toNat, ← add_zext16, ← zext16_add_one_toNat, ← zext16_toNat b, ← join_read]
    rfl

/-- The index charge of an operand form, for its own address and base (R107). -/
theorem indexCharge_eq (w : Bool) (o : Operand) (s : State) (bytes cycles : Nat) {b : Word}
    (hb : b.toNat = base o s) :
    (advance s bytes cycles).indexCharge b (address o s) w = advance s bytes (cycles + charge w o s) := by
  rw [State.indexCharge, hi_bne_hi, hb, charge, crosses]
  split <;> rfl

/-- Each operand form's bytes and cycles, and that nothing else changes (R100, R115). -/
theorem resolve_state (w : Bool) (o : Operand) (s : State) :
    (resolve w o s).2 = advance s (operandBytes o) (resolverCycles w o s) := by
  have ha := resolve_address w o s
  cases o with
  | imm | zp | zpx | zpy | izx => rfl
  | abs => exact consume_consume_eq s
  | ind => exact congrArg (·.tick 2) (consume_consume_eq s)
  | abx a | aby a =>
    refine (congrArg (s.consume.consume.indexCharge a · w) ha).trans ?_
    rw [consume_consume_eq]
    exact indexCharge_eq w _ s 2 2 rfl
  | izy b =>
    have hb : (join (Memory.read s.mem (zext16 (b + 1)).toNat) (Memory.read s.mem (zext16 b).toNat)).toNat =
        base (.izy b) s := by
      rw [join_read, word16_toNat, zext16_add_one_toNat, zext16_toNat]
      rfl
    exact (congrArg ((advance s 1 3).indexCharge _ · w) ha).trans (indexCharge_eq w _ s 1 3 hb)

/-- Settles O19: the address and the state after it, one lemma each. -/
theorem resolversFollowTheirRules : Obligations.ResolversFollowTheirRules := by
  intro w o s
  exact Prod.ext (resolve_address w o s) (resolve_state w o s)

end Sys2Proof.Spec
end

section
/-! PROOFS. The eight branches in plain arithmetic (R112, R193 to R201). -/

namespace Sys2Proof.Spec
open Sys2Proof.Machine

/-- The page test of a taken branch, against the next instruction (R112). -/
theorem takenCycles_eq (s : State) (d : Byte) :
    takenCycles s d = if hi (branchTarget s d) != hi (s.pc + 1) then 2 else 1 := by
  simp only [takenCycles, hi_bne_hi, decide_eq_true_eq, ne_eq, ite_not]

/-- Branch(taken) is the branch of the spec's text (R112). -/
theorem branch_eq_branched (taken : Bool) (d : Byte) (s : State) : branch taken d s = branched taken d s := by
  cases taken with
  | false => rfl
  | true =>
    have ht : s.pc + 1 + sext16 d = branchTarget s d := congrArg (s.pc + 1 + ·) (sext16_eq d)
    rw [branch_true, branched, if_pos rfl, takenCycles_eq, ht]
    split <;> rfl

/-- Settles O43: each arm is Branch with its own flag test. -/
theorem branchesTestOneFlag : Obligations.BranchesTestOneFlag := by
  intro d s
  simp only [← branch_eq_branched]
  exact ⟨⟨rfl, exec_bcc d s⟩, ⟨rfl, exec_bcs d s⟩, ⟨rfl, exec_beq d s⟩, ⟨rfl, exec_bmi d s⟩,
    ⟨rfl, exec_bne d s⟩, ⟨rfl, exec_bpl d s⟩, ⟨rfl, exec_bvc d s⟩, ⟨rfl, exec_bvs d s⟩⟩

end Sys2Proof.Spec
end

section
/-! PROOFS. Reading an operand and setting N and Z in plain arithmetic, and a spec table's rows as one meaning: what
every instruction that reads its operand shares (R10, R25, R115). -/

namespace Sys2Proof.Spec
open Sys2Proof.Machine

/-- SetNZ's bit 7 and zero test, as comparisons of the unsigned number (R10). -/
theorem setNZ_eq_withNZ (f : Flags) (v : Byte) : f.setNZ v = withNZ f v := by
  have hn : v.getLsbD 7 = decide (128 ≤ v.toNat) := BitVec.msb_eq_decide v
  have hz : (v == 0) = decide (v.toNat = 0) := by
    rw [Bool.eq_iff_iff, beq_iff_eq, decide_eq_true_iff, ← BitVec.toNat_inj]
    rfl
  rw [Flags.setNZ, withNZ, hn, hz]

theorem advance_tick (s : State) (bytes c d : Nat) : (advance s bytes c).tick d = advance s bytes (c + d) := by
  rw [tick_eq, advance, advance, Nat.add_assoc]

theorem advance_zero (s : State) (cycles : Nat) : advance s 0 cycles = { s with cyc := s.cyc + cycles } := by
  have hpc : s.pc + BitVec.ofNat 16 0 = s.pc := BitVec.add_zero s.pc
  rw [advance, hpc]

/-- Beside the opcode fetch, a read costs the resolver's cycles and one more (R115). -/
theorem resolverCycles_read (o : Operand) (s : State) : resolverCycles false o s + 1 = readTotal o s - 1 := by
  cases o with
  | imm | zp | zpx | zpy | abs | ind | izx => rfl
  | abx | aby | izy =>
    simp only [resolverCycles, charge, readTotal, Bool.false_or]
    split <;> rfl

theorem readOperand_value_eq (o : Operand) (s : State) : (readOperand o s).1 = operandByte o s := by
  rw [readOperand_value, resolve_address]
  cases o <;> rfl

theorem readOperand_state_eq (o : Operand) (s : State) : (readOperand o s).2 = afterRead o s := by
  rw [readOperand_state, resolve_state, advance_tick, resolverCycles_read, afterRead]

/-- Reading an operand gives its byte; PC passes the operand, and the cycles are the rule's. -/
theorem readOperand_eq (o : Operand) (s : State) : readOperand o s = (operandByte o s, afterRead o s) :=
  Prod.ext (readOperand_value_eq o s) (readOperand_state_eq o s)

/-- The row's instruction has the row's opcode, and its meaning is `f` on the row's operand. -/
def Row.Runs (f : Operand → State → State) (row : Row) : Prop :=
  opcodeOf row.instr = some row.opcode ∧ ∀ s, exec row.instr s = .next (f row.operand s)

theorem Row.Runs.next {row : Row} {f : Operand → State → State} {s t : State} (h : row.Runs f)
    (ht : f row.operand s = t) : opcodeOf row.instr = some row.opcode ∧ exec row.instr s = .next t := by
  obtain ⟨hop, hexec⟩ := h
  exact ⟨hop, by rw [hexec, ht]⟩

end Sys2Proof.Spec
end

section
/-! PROOFS. The loads (R120 to R122). -/

namespace Sys2Proof.Spec
open Sys2Proof.Machine

theorem ldaRows_run (b : Byte) (a : Word) : ∀ row ∈ ldaRows b a, row.Runs lda := by
  simp only [ldaRows, List.forall_mem_cons]
  exact ⟨⟨rfl, exec_ldaImm b⟩, ⟨rfl, exec_ldaZp b⟩, ⟨rfl, exec_ldaZpx b⟩, ⟨rfl, exec_ldaAbs a⟩, ⟨rfl, exec_ldaAbx a⟩,
    ⟨rfl, exec_ldaAby a⟩, ⟨rfl, exec_ldaIzx b⟩, ⟨rfl, exec_ldaIzy b⟩, List.forall_mem_nil _⟩

theorem lda_eq_afterRead (o : Operand) (s : State) :
    lda o s = { afterRead o s with ac := operandByte o s, sr := withNZ s.sr (operandByte o s) } := by
  rw [lda, readOperand_eq, ← setNZ_eq_withNZ]
  rfl

/-- Settles O20: each mode's row is LDA on its operand. -/
theorem ldaLoadsItsRegister : Obligations.LdaLoadsItsRegister := by
  intro b a s row hrow
  exact (ldaRows_run b a row hrow).next (lda_eq_afterRead row.operand s)

theorem ldxRows_run (b : Byte) (a : Word) : ∀ row ∈ ldxRows b a, row.Runs ldx := by
  simp only [ldxRows, List.forall_mem_cons]
  exact ⟨⟨rfl, exec_ldxImm b⟩, ⟨rfl, exec_ldxZp b⟩, ⟨rfl, exec_ldxZpy b⟩, ⟨rfl, exec_ldxAbs a⟩, ⟨rfl, exec_ldxAby a⟩,
    List.forall_mem_nil _⟩

theorem ldx_eq_afterRead (o : Operand) (s : State) :
    ldx o s = { afterRead o s with x := operandByte o s, sr := withNZ s.sr (operandByte o s) } := by
  rw [ldx, readOperand_eq, ← setNZ_eq_withNZ]
  rfl

/-- Settles O21: each mode's row is LDX on its operand. -/
theorem ldxLoadsItsRegister : Obligations.LdxLoadsItsRegister := by
  intro b a s row hrow
  exact (ldxRows_run b a row hrow).next (ldx_eq_afterRead row.operand s)

theorem ldyRows_run (b : Byte) (a : Word) : ∀ row ∈ ldyRows b a, row.Runs ldy := by
  simp only [ldyRows, List.forall_mem_cons]
  exact ⟨⟨rfl, exec_ldyImm b⟩, ⟨rfl, exec_ldyZp b⟩, ⟨rfl, exec_ldyZpx b⟩, ⟨rfl, exec_ldyAbs a⟩, ⟨rfl, exec_ldyAbx a⟩,
    List.forall_mem_nil _⟩

theorem ldy_eq_afterRead (o : Operand) (s : State) :
    ldy o s = { afterRead o s with y := operandByte o s, sr := withNZ s.sr (operandByte o s) } := by
  rw [ldy, readOperand_eq, ← setNZ_eq_withNZ]
  rfl

/-- Settles O22: each mode's row is LDY on its operand. -/
theorem ldyLoadsItsRegister : Obligations.LdyLoadsItsRegister := by
  intro b a s row hrow
  exact (ldyRows_run b a row hrow).next (ldy_eq_afterRead row.operand s)

end Sys2Proof.Spec
end

section
/-! PROOFS. The stores (R123 to R125). -/

namespace Sys2Proof.Spec
open Sys2Proof.Machine

theorem staRows_run (b : Byte) (a : Word) : ∀ row ∈ staRows b a, row.Runs sta := by
  simp only [staRows, List.forall_mem_cons]
  exact ⟨⟨rfl, exec_staZp b⟩, ⟨rfl, exec_staZpx b⟩, ⟨rfl, exec_staAbs a⟩, ⟨rfl, exec_staAbx a⟩, ⟨rfl, exec_staAby a⟩,
    ⟨rfl, exec_staIzx b⟩, ⟨rfl, exec_staIzy b⟩, List.forall_mem_nil _⟩

theorem stxRows_run (b : Byte) (a : Word) : ∀ row ∈ stxRows b a, row.Runs stx := by
  simp only [stxRows, List.forall_mem_cons]
  exact ⟨⟨rfl, exec_stxZp b⟩, ⟨rfl, exec_stxZpy b⟩, ⟨rfl, exec_stxAbs a⟩, List.forall_mem_nil _⟩

theorem styRows_run (b : Byte) (a : Word) : ∀ row ∈ styRows b a, row.Runs sty := by
  simp only [styRows, List.forall_mem_cons]
  exact ⟨⟨rfl, exec_styZp b⟩, ⟨rfl, exec_styZpx b⟩, ⟨rfl, exec_styAbs a⟩, List.forall_mem_nil _⟩

/-- The opcode fetch, the resolver of a write instruction and the write make the total (R115, R123). -/
theorem resolverCycles_store (o : Operand) (s : State) : resolverCycles true o s + 2 = storeTotal o := by
  cases o <;> rfl

theorem wroteOne_of_mem_eq {s t : State} {a : Nat} {v : Byte} (h : t.mem = Memory.write s.mem a v) :
    wroteOne s t a v := by
  refine ⟨?_, fun n hn => ?_⟩
  · rw [cell, h, Memory.read_write_same]
  · rw [cell, h, Memory.read_write_other _ _ hn, cell]

/-- What a store does: one byte at the address of a write instruction, PC past the operand, the cycles of the rule. -/
theorem storeOperand_effect (o : Operand) (v : Byte) (s : State) :
    let t := storeOperand o v s
    wroteOne s t (resolve true o s).1.toNat v ∧ sameRegisters s t ∧ t.sr = s.sr ∧
      t.pc = s.pc + BitVec.ofNat 16 (operandBytes o) ∧ t.cyc + 1 = s.cyc + storeTotal o := by
  have hcyc : (resolve true o s).2.cyc = s.cyc + resolverCycles true o s := by rw [resolve_state, advance]
  have htotal := resolverCycles_store o s
  rw [storeOperand_eq]
  refine ⟨wroteOne_of_mem_eq rfl, ⟨rfl, rfl, rfl, rfl⟩, rfl, resolve_pc true o s, ?_⟩
  dsimp only
  omega

/-- Settles O23: each row is its mnemonic on the row's operand, and that is a store of its register. -/
theorem storesWriteOneByte : Obligations.StoresWriteOneByte := by
  intro b a s
  refine ⟨fun row hrow => ?_, fun row hrow => ?_, fun row hrow => ?_⟩
  · obtain ⟨hop, hexec⟩ := staRows_run b a row hrow
    exact ⟨hop, sta row.operand s, hexec s, storeOperand_effect row.operand s.ac s⟩
  · obtain ⟨hop, hexec⟩ := stxRows_run b a row hrow
    exact ⟨hop, stx row.operand s, hexec s, storeOperand_effect row.operand s.x s⟩
  · obtain ⟨hop, hexec⟩ := styRows_run b a row hrow
    exact ⟨hop, sty row.operand s, hexec s, storeOperand_effect row.operand s.y s⟩

end Sys2Proof.Spec
end

section
/-! PROOFS. The register transfers (R126 to R131). -/

namespace Sys2Proof.Spec
open Sys2Proof.Machine

/-- Settles O24: each arm is its transfer, with no operand byte for PC to pass. -/
theorem transfersCopyARegister : Obligations.TransfersCopyARegister := by
  intro s
  simp only [advance_zero, ← setNZ_eq_withNZ]
  exact ⟨⟨rfl, exec_tax s⟩, ⟨rfl, exec_tay s⟩, ⟨rfl, exec_txa s⟩, ⟨rfl, exec_tya s⟩, ⟨rfl, exec_tsx s⟩,
    ⟨rfl, exec_txs s⟩⟩

end Sys2Proof.Spec
end

section
/-! PROOFS. ADC and SBC (R140, R141): the 9-bit sum as a natural number, SBC as ADC's circuit on the complemented
operand, and the overflow flag as a statement about signed numbers (R145). -/

namespace Sys2Proof.Spec
open Sys2Proof.Machine

/-- Nine bits are enough: the sum does not wrap (R140). -/
theorem sum9_toNat (a m : Byte) (cin : Bool) : (sum9 a m cin).toNat = a.toNat + m.toNat + cin.toNat := by
  have hcin : cin.toNat ≤ 1 := Bool.toNat_le cin
  simp only [sum9, BitVec.toNat_add, BitVec.toNat_setWidth, BitVec.toNat_ofBool]
  omega

theorem addWithCarry_r (a m : Byte) (cin : Bool) :
    (addWithCarry a m cin).r = BitVec.ofNat 8 ((a.toNat + m.toNat + cin.toNat) % 256) := by
  apply BitVec.eq_of_toNat_eq
  rw [addWithCarry, BitVec.toNat_setWidth, sum9_toNat, BitVec.toNat_ofNat, Nat.mod_mod]

/-- The carry is the ninth bit of the sum. -/
theorem addWithCarry_c (a m : Byte) (cin : Bool) :
    (addWithCarry a m cin).c = decide (256 ≤ a.toNat + m.toNat + cin.toNat) := by
  have hbit : (sum9 a m cin).getLsbD 8 = decide (256 ≤ (sum9 a m cin).toNat) :=
    BitVec.msb_eq_decide (sum9 a m cin)
  rw [addWithCarry, hbit, sum9_toNat]

theorem addWithCarry_v (a m : Byte) (cin : Bool) :
    (addWithCarry a m cin).v = decide (a.msb = m.msb ∧ (addWithCarry a m cin).r.msb ≠ a.msb) := by
  have hv : (addWithCarry a m cin).v = (a.msb == m.msb && (addWithCarry a m cin).r.msb != a.msb) := rfl
  rw [hv, Bool.decide_and, beq_eq_decide, bne, beq_eq_decide, decide_not]

theorem subWithBorrow_eq_addWithCarry (a m : Byte) (cin : Bool) :
    subWithBorrow a m cin = { addWithCarry a (~~~m) cin with
      c := (addWithCarry a (~~~m) cin).c && !(addWithCarry a (~~~m) cin).v } := by
  have hm : m ^^^ 0xFF = ~~~m := BitVec.xor_allOnes
  rw [subWithBorrow, hm]
  rfl

theorem not_toNat (m : Byte) : (~~~m).toNat = 255 - m.toNat := BitVec.toNat_not

/-- The complement of a signed byte: SBC's borrow of one (R145). -/
theorem not_toInt (m : Byte) : (~~~m).toInt = -1 - m.toInt := by
  have hm := m.isLt
  simp only [BitVec.toInt_eq_toNat_cond, not_toNat]
  split <;> split <;> omega

theorem subWithBorrow_r (a m : Byte) (cin : Bool) :
    (subWithBorrow a m cin).r = BitVec.ofNat 8 ((a.toNat + (255 - m.toNat) + cin.toNat) % 256) := by
  rw [subWithBorrow_eq_addWithCarry, addWithCarry_r, not_toNat]

/-- The complement turns ADC's "the same sign" into "another sign". -/
theorem subWithBorrow_v (a m : Byte) (cin : Bool) :
    (subWithBorrow a m cin).v = decide (a.msb ≠ m.msb ∧ (subWithBorrow a m cin).r.msb ≠ a.msb) := by
  have hsign : a.msb = (~~~m).msb ↔ a.msb ≠ m.msb := by simp [BitVec.msb_not, Bool.eq_not]
  rw [subWithBorrow_eq_addWithCarry]
  exact (addWithCarry_v a (~~~m) cin).trans (decide_eq_decide.mpr (and_congr_left' hsign))

/-- The ninth bit, forced to 0 on overflow (R141, D11). -/
theorem subWithBorrow_c (a m : Byte) (cin : Bool) :
    (subWithBorrow a m cin).c =
      (decide (256 ≤ a.toNat + (255 - m.toNat) + cin.toNat) && !(subWithBorrow a m cin).v) := by
  rw [subWithBorrow_eq_addWithCarry, addWithCarry_c, not_toNat]

/-- "V = signed overflow": ADC's sign rule says that the sum of the signed numbers does not fit a byte (R140, R145). -/
theorem addWithCarry_v_iff (a m : Byte) (cin : Bool) :
    (addWithCarry a m cin).v = true ↔
      a.toInt + m.toInt + (cin.toNat : Int) < -128 ∨ 127 < a.toInt + m.toInt + (cin.toNat : Int) := by
  have hcin : cin.toNat ≤ 1 := Bool.toNat_le cin
  have ha := a.isLt
  have hm := m.isLt
  rw [addWithCarry_v, addWithCarry_r, decide_eq_true_iff]
  simp only [BitVec.msb_eq_decide, BitVec.toInt_eq_toNat_cond, BitVec.toNat_ofNat, ne_eq, decide_eq_decide]
  by_cases hsigns : 2 ^ (8 - 1) ≤ a.toNat ↔ 2 ^ (8 - 1) ≤ m.toNat
  · -- Operands of one sign: the sum is out of range exactly when its byte has the other sign.
    omega
  · -- Operands of two signs: the sum lies between them, and always fits.
    omega

/-- SBC's V: the signed difference less the borrow does not fit a byte (R141, R145). -/
theorem subWithBorrow_v_iff (a m : Byte) (cin : Bool) :
    (subWithBorrow a m cin).v = true ↔
      a.toInt - m.toInt - (1 - (cin.toNat : Int)) < -128 ∨ 127 < a.toInt - m.toInt - (1 - (cin.toNat : Int)) := by
  have hdiff : a.toInt - m.toInt - (1 - (cin.toNat : Int)) = a.toInt + (~~~m).toInt + (cin.toNat : Int) := by
    rw [not_toInt]
    omega
  rw [hdiff, subWithBorrow_eq_addWithCarry]
  exact addWithCarry_v_iff a (~~~m) cin

/-- SBC's C: no unsigned borrow, and no signed overflow (R141, D11). -/
theorem subWithBorrow_c_iff (a m : Byte) (cin : Bool) :
    (subWithBorrow a m cin).c = true ↔ m.toNat + 1 ≤ a.toNat + cin.toNat ∧ (subWithBorrow a m cin).v = false := by
  have hm := m.isLt
  rw [subWithBorrow_c, Bool.and_eq_true, decide_eq_true_iff, Bool.not_eq_true']
  refine and_congr_left fun _ => ?_
  omega

theorem adcRows_run (b : Byte) (a : Word) : ∀ row ∈ adcRows b a, row.Runs adc := by
  simp only [adcRows, List.forall_mem_cons]
  exact ⟨⟨rfl, exec_adcImm b⟩, ⟨rfl, exec_adcZp b⟩, ⟨rfl, exec_adcZpx b⟩, ⟨rfl, exec_adcAbs a⟩, ⟨rfl, exec_adcAbx a⟩,
    ⟨rfl, exec_adcAby a⟩, ⟨rfl, exec_adcIzx b⟩, ⟨rfl, exec_adcIzy b⟩, List.forall_mem_nil _⟩

theorem sbcRows_run (b : Byte) (a : Word) : ∀ row ∈ sbcRows b a, row.Runs sbc := by
  simp only [sbcRows, List.forall_mem_cons]
  exact ⟨⟨rfl, exec_sbcImm b⟩, ⟨rfl, exec_sbcZp b⟩, ⟨rfl, exec_sbcZpx b⟩, ⟨rfl, exec_sbcAbs a⟩, ⟨rfl, exec_sbcAbx a⟩,
    ⟨rfl, exec_sbcAby a⟩, ⟨rfl, exec_sbcIzx b⟩, ⟨rfl, exec_sbcIzy b⟩, List.forall_mem_nil _⟩

/-- After an instruction that reads its operand and puts a sum in AC: the sum's byte and its four flags. -/
def afterSum (o : Operand) (s : State) (t : SumResult) : State :=
  { afterRead o s with ac := t.r, sr := { withNZ s.sr t.r with c := t.c, v := t.v } }

theorem adc_eq_afterSum (o : Operand) (s : State) :
    adc o s = afterSum o s (addWithCarry s.ac (operandByte o s) s.sr.c) := by
  rw [adc, readOperand_eq, afterSum, ← setNZ_eq_withNZ]
  rfl

theorem sbc_eq_afterSum (o : Operand) (s : State) :
    sbc o s = afterSum o s (subWithBorrow s.ac (operandByte o s) s.sr.c) := by
  rw [sbc, readOperand_eq, afterSum, ← setNZ_eq_withNZ]
  rfl

/-- Settles O25: each mode's row is ADC on its operand, and its three results are those of the natural sum. -/
theorem adcAddsWithCarry : Obligations.AdcAddsWithCarry := by
  intro b a s row hrow
  refine (adcRows_run b a row hrow).next ?_
  rw [adc_eq_afterSum, afterSum, addWithCarry_v, addWithCarry_c, addWithCarry_r]

/-- Settles O26: each mode's row is SBC on its operand, which is ADC's sum with the complement. -/
theorem sbcSubtractsWithBorrow : Obligations.SbcSubtractsWithBorrow := by
  intro b a s row hrow
  refine (sbcRows_run b a row hrow).next ?_
  rw [sbc_eq_afterSum, afterSum, subWithBorrow_c, subWithBorrow_v, subWithBorrow_r]

/-- Settles O27: V and C of each row are those of the sum it puts in AC. -/
theorem overflowIsOutOfSignedRange : Obligations.OverflowIsOutOfSignedRange := by
  intro b a s
  refine ⟨fun row hrow => ?_, fun row hrow => ?_⟩
  · obtain ⟨-, hexec⟩ := adcRows_run b a row hrow
    refine ⟨adc row.operand s, hexec s, ?_⟩
    rw [adc_eq_afterSum]
    exact addWithCarry_v_iff _ _ _
  · obtain ⟨-, hexec⟩ := sbcRows_run b a row hrow
    refine ⟨sbc row.operand s, hexec s, ?_⟩
    rw [sbc_eq_afterSum]
    exact ⟨subWithBorrow_v_iff _ _ _, subWithBorrow_c_iff _ _ _⟩

end Sys2Proof.Spec
end

section
/-! PROOFS. The compares (R142 to R144). -/

namespace Sys2Proof.Spec
open Sys2Proof.Machine

theorem sub_eq_ofNat (r m : Byte) : r - m = BitVec.ofNat 8 ((r.toNat + 256 - m.toNat) % 256) := by
  have hm := m.isLt
  apply BitVec.eq_of_toNat_eq
  rw [BitVec.toNat_sub, BitVec.toNat_ofNat]
  omega

theorem compare_eq_compared (f : Flags) (r m : Byte) : f.compare r m = compared f r m := by
  rw [Flags.compare, setNZ_eq_withNZ, sub_eq_ofNat]
  rfl

theorem cmpRows_run (b : Byte) (a : Word) : ∀ row ∈ cmpRows b a, row.Runs Machine.cmp := by
  simp only [cmpRows, List.forall_mem_cons]
  exact ⟨⟨rfl, exec_cmpImm b⟩, ⟨rfl, exec_cmpZp b⟩, ⟨rfl, exec_cmpZpx b⟩, ⟨rfl, exec_cmpAbs a⟩, ⟨rfl, exec_cmpAbx a⟩,
    ⟨rfl, exec_cmpAby a⟩, ⟨rfl, exec_cmpIzx b⟩, ⟨rfl, exec_cmpIzy b⟩, List.forall_mem_nil _⟩

theorem cpxRows_run (b : Byte) (a : Word) : ∀ row ∈ cpxRows b a, row.Runs cpx := by
  simp only [cpxRows, List.forall_mem_cons]
  exact ⟨⟨rfl, exec_cpxImm b⟩, ⟨rfl, exec_cpxZp b⟩, ⟨rfl, exec_cpxAbs a⟩, List.forall_mem_nil _⟩

theorem cpyRows_run (b : Byte) (a : Word) : ∀ row ∈ cpyRows b a, row.Runs cpy := by
  simp only [cpyRows, List.forall_mem_cons]
  exact ⟨⟨rfl, exec_cpyImm b⟩, ⟨rfl, exec_cpyZp b⟩, ⟨rfl, exec_cpyAbs a⟩, List.forall_mem_nil _⟩

theorem cmp_eq_afterRead (o : Operand) (s : State) :
    Machine.cmp o s = { afterRead o s with sr := compared s.sr s.ac (operandByte o s) } := by
  rw [Machine.cmp, readOperand_eq, ← compare_eq_compared]
  rfl

theorem cpx_eq_afterRead (o : Operand) (s : State) :
    cpx o s = { afterRead o s with sr := compared s.sr s.x (operandByte o s) } := by
  rw [cpx, readOperand_eq, ← compare_eq_compared]
  rfl

theorem cpy_eq_afterRead (o : Operand) (s : State) :
    cpy o s = { afterRead o s with sr := compared s.sr s.y (operandByte o s) } := by
  rw [cpy, readOperand_eq, ← compare_eq_compared]
  rfl

/-- Settles O28: each row is its mnemonic on the row's operand, and that is a comparison of its register. -/
theorem comparesSetFlagsOnly : Obligations.ComparesSetFlagsOnly := by
  intro b a s
  exact ⟨fun row hrow => (cmpRows_run b a row hrow).next (cmp_eq_afterRead row.operand s),
    fun row hrow => (cpxRows_run b a row hrow).next (cpx_eq_afterRead row.operand s),
    fun row hrow => (cpyRows_run b a row hrow).next (cpy_eq_afterRead row.operand s)⟩

end Sys2Proof.Spec
end

section
/-! PROOFS. AND, ORA and EOR (R150 to R152). -/

namespace Sys2Proof.Spec
open Sys2Proof.Machine

theorem andRows_run (b : Byte) (a : Word) : ∀ row ∈ andRows b a, row.Runs andAc := by
  simp only [andRows, List.forall_mem_cons]
  exact ⟨⟨rfl, exec_andImm b⟩, ⟨rfl, exec_andZp b⟩, ⟨rfl, exec_andZpx b⟩, ⟨rfl, exec_andAbs a⟩, ⟨rfl, exec_andAbx a⟩,
    ⟨rfl, exec_andAby a⟩, ⟨rfl, exec_andIzx b⟩, ⟨rfl, exec_andIzy b⟩, List.forall_mem_nil _⟩

theorem oraRows_run (b : Byte) (a : Word) : ∀ row ∈ oraRows b a, row.Runs oraAc := by
  simp only [oraRows, List.forall_mem_cons]
  exact ⟨⟨rfl, exec_oraImm b⟩, ⟨rfl, exec_oraZp b⟩, ⟨rfl, exec_oraZpx b⟩, ⟨rfl, exec_oraAbs a⟩, ⟨rfl, exec_oraAbx a⟩,
    ⟨rfl, exec_oraAby a⟩, ⟨rfl, exec_oraIzx b⟩, ⟨rfl, exec_oraIzy b⟩, List.forall_mem_nil _⟩

theorem eorRows_run (b : Byte) (a : Word) : ∀ row ∈ eorRows b a, row.Runs eorAc := by
  simp only [eorRows, List.forall_mem_cons]
  exact ⟨⟨rfl, exec_eorImm b⟩, ⟨rfl, exec_eorZp b⟩, ⟨rfl, exec_eorZpx b⟩, ⟨rfl, exec_eorAbs a⟩, ⟨rfl, exec_eorAbx a⟩,
    ⟨rfl, exec_eorAby a⟩, ⟨rfl, exec_eorIzx b⟩, ⟨rfl, exec_eorIzy b⟩, List.forall_mem_nil _⟩

/-- What the three share: a result put in AC after the operand is read sets N and Z, and no other flag. -/
theorem afterRead_ac_setNZ (o : Operand) (s : State) (r : Byte) :
    ({ afterRead o s with ac := r } : State).setNZ r = { afterRead o s with ac := r, sr := withNZ s.sr r } := by
  rw [← setNZ_eq_withNZ]
  rfl

theorem andAc_eq_afterRead (o : Operand) (s : State) :
    andAc o s = { afterRead o s with
      ac := s.ac &&& operandByte o s, sr := withNZ s.sr (s.ac &&& operandByte o s) } := by
  rw [andAc, readOperand_eq]
  exact afterRead_ac_setNZ o s _

theorem oraAc_eq_afterRead (o : Operand) (s : State) :
    oraAc o s = { afterRead o s with
      ac := s.ac ||| operandByte o s, sr := withNZ s.sr (s.ac ||| operandByte o s) } := by
  rw [oraAc, readOperand_eq]
  exact afterRead_ac_setNZ o s _

theorem eorAc_eq_afterRead (o : Operand) (s : State) :
    eorAc o s = { afterRead o s with
      ac := s.ac ^^^ operandByte o s, sr := withNZ s.sr (s.ac ^^^ operandByte o s) } := by
  rw [eorAc, readOperand_eq]
  exact afterRead_ac_setNZ o s _

/-- Settles O29: each row is its mnemonic on the row's operand, and that puts the bitwise result in AC. -/
theorem logicCombinesWithAccumulator : Obligations.LogicCombinesWithAccumulator := by
  intro b a s
  exact ⟨fun row hrow => (andRows_run b a row hrow).next (andAc_eq_afterRead row.operand s),
    fun row hrow => (oraRows_run b a row hrow).next (oraAc_eq_afterRead row.operand s),
    fun row hrow => (eorRows_run b a row hrow).next (eorAc_eq_afterRead row.operand s)⟩

end Sys2Proof.Spec
end

section
/-! PROOFS. BIT (R153). -/

namespace Sys2Proof.Spec
open Sys2Proof.Machine

theorem bitRows_run (b : Byte) (a : Word) : ∀ row ∈ bitRows b a, row.Runs bitTestAc := by
  simp only [bitRows, List.forall_mem_cons]
  exact ⟨⟨rfl, exec_bitZp b⟩, ⟨rfl, exec_bitAbs a⟩, List.forall_mem_nil _⟩

theorem getLsbD_six_eq_decide (m : Byte) : m.getLsbD 6 = decide (64 ≤ m.toNat % 128) := by
  rw [BitVec.getLsbD, Nat.testBit_eq_decide_div_mod_eq, decide_eq_decide]
  omega

/-- BIT's three flags, N and V as comparisons of the operand's unsigned number (R153). -/
theorem bitTest_eq (f : Flags) (a m : Byte) :
    f.bitTest a m = { f with
      z := decide (a &&& m = 0)
      n := decide (128 ≤ m.toNat)
      v := decide (64 ≤ m.toNat % 128) } := by
  have hn : m.getLsbD 7 = decide (128 ≤ m.toNat) := BitVec.msb_eq_decide m
  rw [Flags.bitTest, hn, getLsbD_six_eq_decide, beq_eq_decide]

theorem bitTestAc_eq_afterRead (o : Operand) (s : State) :
    bitTestAc o s = { afterRead o s with sr := s.sr.bitTest s.ac (operandByte o s) } := by
  rw [bitTestAc, readOperand_eq]
  rfl

/-- Settles O30: each mode's row is BIT on its operand, which writes three flags. -/
theorem bitTestsTheOperand : Obligations.BitTestsTheOperand := by
  intro b a s row hrow
  refine (bitRows_run b a row hrow).next ?_
  rw [bitTestAc_eq_afterRead, bitTest_eq]

end Sys2Proof.Spec
end

section
/-! PROOFS. The six modify functions in plain arithmetic (R161 to R166): shifted, rotated, incremented and decremented
bytes as numbers, and the bit shifted out. -/

namespace Sys2Proof.Spec
open Sys2Proof.Machine

theorem getLsbD_seven_eq_decide (v : Byte) : v.getLsbD 7 = decide (128 ≤ v.toNat) := BitVec.msb_eq_decide v

theorem getLsbD_zero_eq_decide (v : Byte) : v.getLsbD 0 = decide (v.toNat % 2 = 1) := by
  rw [BitVec.getLsbD, Nat.testBit_zero]

theorem shiftLeft_one_eq_ofNat (v : Byte) : v <<< 1 = BitVec.ofNat 8 (v.toNat * 2 % 256) :=
  BitVec.eq_of_toNat_eq (by rw [BitVec.toNat_shiftLeft, BitVec.toNat_ofNat, Nat.mod_mod, Nat.shiftLeft_eq])

theorem shiftRight_one_eq_ofNat (v : Byte) : v >>> 1 = BitVec.ofNat 8 (v.toNat / 2) := by
  have hv := v.isLt
  apply BitVec.eq_of_toNat_eq
  rw [BitVec.toNat_ushiftRight, BitVec.toNat_ofNat, Nat.shiftRight_eq_div_pow]
  omega

theorem carryBit_eq_ofNat (cin : Bool) : (BitVec.ofBool cin).setWidth 8 = BitVec.ofNat 8 cin.toNat := by
  cases cin <;> rfl

/-- The carry in ROR's bit 7 (R164). -/
theorem carryBit_shiftLeft_eq_ofNat (cin : Bool) :
    (BitVec.ofBool cin).setWidth 8 <<< 7 = BitVec.ofNat 8 (128 * cin.toNat) := by
  cases cin <;> rfl

theorem add_one_eq_ofNat (v : Byte) : v + 1 = BitVec.ofNat 8 ((v.toNat + 1) % 256) :=
  BitVec.eq_of_toNat_eq (by rw [BitVec.toNat_add, BitVec.toNat_ofNat, Nat.mod_mod]; rfl)

/-- Minus 1 is plus 255 modulo 256. -/
theorem sub_one_eq_ofNat (v : Byte) : v - 1 = BitVec.ofNat 8 ((v.toNat + 255) % 256) := sub_eq_ofNat v 1

/-! The new byte and the carry out of each. -/

theorem modifyAsl_eq (v : Byte) (cin : Bool) :
    modifyAsl v cin = (BitVec.ofNat 8 (v.toNat * 2 % 256), some (decide (128 ≤ v.toNat))) := by
  rw [modifyAsl, shiftLeft_one_eq_ofNat, getLsbD_seven_eq_decide]

theorem modifyLsr_eq (v : Byte) (cin : Bool) :
    modifyLsr v cin = (BitVec.ofNat 8 (v.toNat / 2), some (decide (v.toNat % 2 = 1))) := by
  rw [modifyLsr, shiftRight_one_eq_ofNat, getLsbD_zero_eq_decide]

theorem modifyRol_eq (v : Byte) (cin : Bool) :
    modifyRol v cin = (BitVec.ofNat 8 (v.toNat * 2 % 256 + cin.toNat), some (decide (128 ≤ v.toNat))) := by
  rw [modifyRol, shiftLeft_one_eq_ofNat, carryBit_eq_ofNat, ← BitVec.ofNat_add, getLsbD_seven_eq_decide]

theorem modifyRor_eq (v : Byte) (cin : Bool) :
    modifyRor v cin = (BitVec.ofNat 8 (v.toNat / 2 + 128 * cin.toNat), some (decide (v.toNat % 2 = 1))) := by
  rw [modifyRor, shiftRight_one_eq_ofNat, carryBit_shiftLeft_eq_ofNat, ← BitVec.ofNat_add, getLsbD_zero_eq_decide]

theorem modifyInc_eq (v : Byte) (cin : Bool) : modifyInc v cin = (BitVec.ofNat 8 ((v.toNat + 1) % 256), none) := by
  rw [modifyInc, add_one_eq_ofNat]

theorem modifyDec_eq (v : Byte) (cin : Bool) : modifyDec v cin = (BitVec.ofNat 8 ((v.toNat + 255) % 256), none) := by
  rw [modifyDec, sub_one_eq_ofNat]

end Sys2Proof.Spec
end

section
/-! PROOFS. The two read-modify-write patterns of R160, on AC and on one byte of memory, for any modify function. -/

namespace Sys2Proof.Spec
open Sys2Proof.Machine

theorem afterModify_some (f : Flags) (r : Byte) (c : Bool) : f.afterModify r (some c) = { withNZ f r with c := c } := by
  rw [← setNZ_eq_withNZ]
  rfl

theorem afterModify_none (f : Flags) (r : Byte) : f.afterModify r none = withNZ f r := setNZ_eq_withNZ f r

/-- The accumulator form with a carry out: AC, N, Z and C are written, and one cycle is charged. -/
theorem rmwAcc_of_carry {f : Modify} {s : State} {r : Byte} {c : Bool} (hf : f s.ac s.sr.c = (r, some c)) :
    rmwAcc f s = { advance s 0 1 with ac := r, sr := { withNZ s.sr r with c := c } } := by
  rw [rmwAcc_eq, hf, afterModify_some, advance_zero]

/-- The opcode fetch, the resolver of a write instruction, the read, the modify and the write make the total (R160). -/
theorem resolverCycles_modify {o : Operand} (ho : Modifiable o) (s : State) :
    resolverCycles true o s + 4 = rmwTotal o := by
  cases ho <;> rfl

/-- What a read-modify-write does: the new byte at the address of a write instruction, the flags of the modify, PC past
the operand, the cycles of the rule. -/
theorem rmwMem_effect {f : Modify} {o : Operand} (ho : Modifiable o) {s : State} {r : Byte} {c : Option Bool}
    (hf : f (cell s (resolve true o s).1.toNat) s.sr.c = (r, c)) :
    let t := rmwMem f o s
    wroteOne s t (resolve true o s).1.toNat r ∧ sameRegisters s t ∧ t.sr = s.sr.afterModify r c ∧
      t.pc = s.pc + BitVec.ofNat 16 (operandBytes o) ∧ t.cyc + 1 = s.cyc + rmwTotal o := by
  have hcyc : (resolve true o s).2.cyc = s.cyc + resolverCycles true o s := by rw [resolve_state, advance]
  have htotal := resolverCycles_modify ho s
  rw [cell] at hf
  rw [rmwMem_eq, hf]
  refine ⟨wroteOne_of_mem_eq rfl, ⟨rfl, rfl, rfl, rfl⟩, rfl, resolve_pc true o s, ?_⟩
  dsimp only
  omega

/-- The row's instruction has the row's opcode, and is the read-modify-write with `f` on an operand form of R160. -/
def Row.RunsModify (f : Modify) (row : Row) : Prop := row.Runs (rmwMem f) ∧ Modifiable row.operand

/-- A row's effect, its flags `sr` written as the statement at hand writes them. -/
theorem Row.RunsModify.effect {row : Row} {f : Modify} (h : row.RunsModify f) {s : State} {r : Byte} {c : Option Bool}
    (hf : f (cell s (resolve true row.operand s).1.toNat) s.sr.c = (r, c)) {sr : Flags}
    (hsr : s.sr.afterModify r c = sr) :
    opcodeOf row.instr = some row.opcode ∧ ∃ t, exec row.instr s = .next t ∧
      wroteOne s t (resolve true row.operand s).1.toNat r ∧ sameRegisters s t ∧ t.sr = sr ∧
      t.pc = s.pc + BitVec.ofNat 16 (operandBytes row.operand) ∧ t.cyc + 1 = s.cyc + rmwTotal row.operand := by
  obtain ⟨⟨hop, hexec⟩, ho⟩ := h
  exact ⟨hop, rmwMem f row.operand s, hexec s, hsr ▸ rmwMem_effect ho hf⟩

end Sys2Proof.Spec
end

section
/-! PROOFS. The shifts, rotates, INC and DEC (R161 to R166). -/

namespace Sys2Proof.Spec
open Sys2Proof.Machine

theorem aslRows_run (b : Byte) (a : Word) : ∀ row ∈ aslRows b a, row.RunsModify modifyAsl := by
  simp only [aslRows, List.forall_mem_cons]
  exact ⟨⟨⟨rfl, exec_aslZp b⟩, .zp b⟩, ⟨⟨rfl, exec_aslZpx b⟩, .zpx b⟩, ⟨⟨rfl, exec_aslAbs a⟩, .abs a⟩,
    ⟨⟨rfl, exec_aslAbx a⟩, .abx a⟩, List.forall_mem_nil _⟩

theorem lsrRows_run (b : Byte) (a : Word) : ∀ row ∈ lsrRows b a, row.RunsModify modifyLsr := by
  simp only [lsrRows, List.forall_mem_cons]
  exact ⟨⟨⟨rfl, exec_lsrZp b⟩, .zp b⟩, ⟨⟨rfl, exec_lsrZpx b⟩, .zpx b⟩, ⟨⟨rfl, exec_lsrAbs a⟩, .abs a⟩,
    ⟨⟨rfl, exec_lsrAbx a⟩, .abx a⟩, List.forall_mem_nil _⟩

theorem rolRows_run (b : Byte) (a : Word) : ∀ row ∈ rolRows b a, row.RunsModify modifyRol := by
  simp only [rolRows, List.forall_mem_cons]
  exact ⟨⟨⟨rfl, exec_rolZp b⟩, .zp b⟩, ⟨⟨rfl, exec_rolZpx b⟩, .zpx b⟩, ⟨⟨rfl, exec_rolAbs a⟩, .abs a⟩,
    ⟨⟨rfl, exec_rolAbx a⟩, .abx a⟩, List.forall_mem_nil _⟩

theorem rorRows_run (b : Byte) (a : Word) : ∀ row ∈ rorRows b a, row.RunsModify modifyRor := by
  simp only [rorRows, List.forall_mem_cons]
  exact ⟨⟨⟨rfl, exec_rorZp b⟩, .zp b⟩, ⟨⟨rfl, exec_rorZpx b⟩, .zpx b⟩, ⟨⟨rfl, exec_rorAbs a⟩, .abs a⟩,
    ⟨⟨rfl, exec_rorAbx a⟩, .abx a⟩, List.forall_mem_nil _⟩

theorem incRows_run (b : Byte) (a : Word) : ∀ row ∈ incRows b a, row.RunsModify modifyInc := by
  simp only [incRows, List.forall_mem_cons]
  exact ⟨⟨⟨rfl, exec_incZp b⟩, .zp b⟩, ⟨⟨rfl, exec_incZpx b⟩, .zpx b⟩, ⟨⟨rfl, exec_incAbs a⟩, .abs a⟩,
    ⟨⟨rfl, exec_incAbx a⟩, .abx a⟩, List.forall_mem_nil _⟩

theorem decRows_run (b : Byte) (a : Word) : ∀ row ∈ decRows b a, row.RunsModify modifyDec := by
  simp only [decRows, List.forall_mem_cons]
  exact ⟨⟨⟨rfl, exec_decZp b⟩, .zp b⟩, ⟨⟨rfl, exec_decZpx b⟩, .zpx b⟩, ⟨⟨rfl, exec_decAbs a⟩, .abs a⟩,
    ⟨⟨rfl, exec_decAbx a⟩, .abx a⟩, List.forall_mem_nil _⟩

/-- Settles O31: ASL's byte and carry as numbers, put in AC or in each mode's byte of memory. -/
theorem aslShiftsMemoryAndAccumulator : Obligations.AslShiftsMemoryAndAccumulator := by
  intro b a s
  refine ⟨⟨rfl, ?_⟩, fun row hrow => ?_⟩
  · rw [exec_aslAcc, rmwAcc_of_carry (modifyAsl_eq _ _)]
  · exact (aslRows_run b a row hrow).effect (modifyAsl_eq _ _) (afterModify_some _ _ _)

/-- Settles O32: LSR's byte and carry as numbers, put in AC or in each mode's byte of memory. -/
theorem lsrShiftsMemoryAndAccumulator : Obligations.LsrShiftsMemoryAndAccumulator := by
  intro b a s
  refine ⟨⟨rfl, ?_⟩, fun row hrow => ?_⟩
  · rw [exec_lsrAcc, rmwAcc_of_carry (modifyLsr_eq _ _)]
  · exact (lsrRows_run b a row hrow).effect (modifyLsr_eq _ _) (afterModify_some _ _ _)

/-- Settles O33: ROL's byte, with the carry in at bit 0, put in AC or in each mode's byte of memory. -/
theorem rolRotatesMemoryAndAccumulator : Obligations.RolRotatesMemoryAndAccumulator := by
  intro b a s
  refine ⟨⟨rfl, ?_⟩, fun row hrow => ?_⟩
  · rw [exec_rolAcc, rmwAcc_of_carry (modifyRol_eq _ _)]
  · exact (rolRows_run b a row hrow).effect (modifyRol_eq _ _) (afterModify_some _ _ _)

/-- Settles O34: ROR's byte, with the carry in at bit 7, put in AC or in each mode's byte of memory. -/
theorem rorRotatesMemoryAndAccumulator : Obligations.RorRotatesMemoryAndAccumulator := by
  intro b a s
  refine ⟨⟨rfl, ?_⟩, fun row hrow => ?_⟩
  · rw [exec_rorAcc, rmwAcc_of_carry (modifyRor_eq _ _)]
  · exact (rorRows_run b a row hrow).effect (modifyRor_eq _ _) (afterModify_some _ _ _)

/-- Settles O35: each row is a read-modify-write with no carry out. -/
theorem incDecModifyMemory : Obligations.IncDecModifyMemory := by
  intro b a s
  exact ⟨fun row hrow => (incRows_run b a row hrow).effect (modifyInc_eq _ _) (afterModify_none _ _),
    fun row hrow => (decRows_run b a row hrow).effect (modifyDec_eq _ _) (afterModify_none _ _)⟩

end Sys2Proof.Spec
end

section
/-! PROOFS. INX, INY, DEX and DEY (R167 to R170). -/

namespace Sys2Proof.Spec
open Sys2Proof.Machine

/-- Settles O36: each arm adds or subtracts 1 in its register, with no operand byte for PC to pass. -/
theorem registerIncDecWrap : Obligations.RegisterIncDecWrap := by
  intro s
  simp only [advance_zero, ← setNZ_eq_withNZ, ← add_one_eq_ofNat, ← sub_one_eq_ofNat]
  exact ⟨⟨rfl, exec_inx s⟩, ⟨rfl, exec_iny s⟩, ⟨rfl, exec_dex s⟩, ⟨rfl, exec_dey s⟩⟩

end Sys2Proof.Spec
end

section
/-! PROOFS. The flag instructions and NOP (R180 to R187). -/

namespace Sys2Proof.Spec
open Sys2Proof.Machine

/-- Settles O37: each arm puts its literal in its flag, with no operand byte for PC to pass. -/
theorem flagInstructionsSetOneFlag : Obligations.FlagInstructionsSetOneFlag := by
  intro s
  simp only [advance_zero]
  exact ⟨⟨rfl, exec_clc s⟩, ⟨rfl, exec_cld s⟩, ⟨rfl, exec_cli s⟩, ⟨rfl, exec_clv s⟩, ⟨rfl, exec_sec s⟩,
    ⟨rfl, exec_sed s⟩, ⟨rfl, exec_sei s⟩⟩

/-- An opcode that needs no operand byte names the step's instruction by itself (R60, R81). -/
theorem step_of_bare {s : State} {i : Instr} (h : tableEntry s.opcodeAt = some (.bare i)) :
    step s = exec i s.afterOpcodeFetch :=
  step_of_decode (decode_bare _ h)

/-- Settles O38: NOP's one cycle, and the opcode fetch before it in a step. -/
theorem nopOnlyTakesTime : Obligations.NopOnlyTakesTime := by
  refine ⟨fun s => ⟨rfl, ?_⟩, fun s hop => ?_⟩
  · rw [exec_nop, tick_eq]
  · have hentry : tableEntry s.opcodeAt = some (.bare .nop) := congrArg tableEntry hop
    rw [step_of_bare hentry, exec_nop, tick_eq, afterOpcodeFetch_eq]

end Sys2Proof.Spec
end

section
/-! PROOFS. The stack page as cells (R23): where the bytes of each push lie, and what a pull reads of a stack page left
as it was. -/

namespace Sys2Proof.Spec
open Sys2Proof.Machine

theorem stackCell_inj {p q : Byte} : stackCell p = stackCell q ↔ p = q := by
  rw [stackCell, stackCell, Nat.add_left_cancel_iff, BitVec.toNat_inj]

theorem stackCell_ne_sub_one (p : Byte) : stackCell p ≠ stackCell (p - 1) :=
  mt stackCell_inj.mp (by bv_omega)

theorem stackCell_ne_sub_two (p : Byte) : stackCell p ≠ stackCell (p - 1 - 1) :=
  mt stackCell_inj.mp (by bv_omega)

theorem sub_three_eq (p : Byte) : p - 3 = p - 1 - 1 - 1 := by bv_omega

theorem add_two_eq (p : Byte) : p + 2 = p + 1 + 1 := by bv_omega

theorem add_three_eq (p : Byte) : p + 3 = p + 1 + 1 + 1 := by bv_omega

theorem cell_jsr (a : Word) (s : State) (n : Nat) :
    cell (jsr a s) n = if n = stackCell (s.sp - 1) then lo (s.pc + 1)
      else if n = stackCell s.sp then hi (s.pc + 1) else cell s n := by
  simp only [cell, jsr_eq, Memory.read_write, stackCell_eq]

theorem cell_pha (s : State) : cell (pha s) (stackCell s.sp) = s.ac := by
  rw [cell, pha_eq, stackCell_eq, Memory.read_write_same]

theorem cell_php (s : State) : cell (php s) (stackCell s.sp) = s.sr.flatten := by
  rw [cell, php_eq, stackCell_eq, Memory.read_write_same]

theorem cell_trapEntry (s : State) (n : Nat) :
    cell s.trapEntry n = if n = stackCell (s.sp - 1 - 1) then Flags.flatten { s.sr with b := true }
      else if n = stackCell (s.sp - 1) then lo s.pc else if n = stackCell s.sp then hi s.pc else cell s n := by
  simp only [cell, trapEntry_eq, Memory.read_write, stackCell_eq]

/-- A return address is the 16-bit number in two cells of the stack page. -/
theorem join_stack (s : State) (low high : Byte) :
    join (Memory.read s.mem (stackAddr high).toNat) (Memory.read s.mem (stackAddr low).toNat) =
      join (cell s (stackCell high)) (cell s (stackCell low)) := by
  rw [cell, cell, stackCell_eq, stackCell_eq]

/-- A state with the same stack page holds the same byte in the cell of every SP. -/
theorem sameStackPage.stackCell_eq {s t : State} (h : sameStackPage s t) (p : Byte) :
    cell t (stackCell p) = cell s (stackCell p) :=
  h _ (Nat.le_add_right 256 _) (Nat.add_lt_add_left p.isLt 256)

end Sys2Proof.Spec
end

section
/-! PROOFS. Jumps and subroutines (R190 to R192). -/

namespace Sys2Proof.Spec
open Sys2Proof.Machine

/-- Settles O39: the two operand forms' addresses and cycles. -/
theorem jmpSetsPc : Obligations.JmpSetsPc := by
  intro a p s
  have habs : exec (.jmpAbs a) s = .next { s with pc := a, cyc := s.cyc + 2 } := by
    rw [exec_jmpAbs, jmp_eq, resolve_address, resolve_state]
    rfl
  have hind : exec (.jmpInd p) s = .next { s with pc := address (.ind p) s, cyc := s.cyc + 4 } := by
    rw [exec_jmpInd, jmp_eq, resolve_address, resolve_state]
    rfl
  exact ⟨rfl, rfl, habs, hind⟩

/-- Settles O40: the two pushed cells differ for every SP. -/
theorem jsrPushesReturnAddress : Obligations.JsrPushesReturnAddress := by
  intro a s
  refine ⟨rfl, jsr a s, exec_jsr a s, rfl, (sub_two_eq _).symm, rfl, rfl, rfl, rfl, rfl, ?_, ?_,
    fun n hhigh hlow => ?_⟩
  · rw [cell_jsr, if_neg (stackCell_ne_sub_one _), if_pos rfl, hi_toNat]
  · rw [cell_jsr, if_pos rfl, lo_toNat]
  · rw [cell_jsr, if_neg hlow, if_neg hhigh]

/-- RTS in the cells of the stack page (R192). -/
theorem rts_eq_cells (s : State) : rts s = { s with
    pc := join (cell s (stackCell (s.sp + 1 + 1))) (cell s (stackCell (s.sp + 1))) + 1
    sp := s.sp + 1 + 1
    cyc := s.cyc + 5 } := by
  rw [rts_eq, join_stack]

theorem word_add_one (n : Nat) : BitVec.ofNat 16 n + 1 = BitVec.ofNat 16 ((n + 1) % 65536) :=
  BitVec.eq_of_toNat_eq (by simp)

/-- Settles O41: the popped word as a number, and 1 added to it. -/
theorem rtsReturnsPastTheCall : Obligations.RtsReturnsPastTheCall := by
  intro s
  refine ⟨rfl, ?_⟩
  rw [exec_rts, rts_eq_cells, join_eq, word_add_one, add_two_eq]
  rfl

/-- Settles O42: the two cells RTS reads are those JSR wrote. -/
theorem jsrThenRtsReturns : Obligations.JsrThenRtsReturns := by
  intro a s t u hjsr hsp hpage
  obtain rfl : jsr a s = t := Host.Outcome.next.inj ((exec_jsr a s).symm.trans hjsr)
  have h1 : u.sp + 1 = s.sp - 1 := by rw [hsp]; exact BitVec.sub_add_cancel _ 1
  have h2 : u.sp + 1 + 1 = s.sp := by rw [h1]; exact BitVec.sub_add_cancel _ 1
  have hlow : cell u (stackCell (u.sp + 1)) = lo (s.pc + 1) := by
    rw [h1, hpage.stackCell_eq, cell_jsr, if_pos rfl]
  have hhigh : cell u (stackCell (u.sp + 1 + 1)) = hi (s.pc + 1) := by
    rw [h2, hpage.stackCell_eq, cell_jsr, if_neg (stackCell_ne_sub_one _), if_pos rfl]
  have hpc : s.pc + 1 + 1 = s.pc + 2 := by bv_omega
  refine ⟨rts u, exec_rts u, ?_, h2⟩
  rw [rts_eq_cells, hlow, hhigh, join_hi_lo, ← hpc]

end Sys2Proof.Spec
end

section
/-! PROOFS. Push and pull, BRK and RTI (R210 to R215). -/

namespace Sys2Proof.Spec
open Sys2Proof.Machine

/-- Settles O44: one byte written at the cell of SP. -/
theorem pushesWriteTheStackPage : Obligations.PushesWriteTheStackPage := by
  intro s
  rw [stackCell_eq]
  refine ⟨⟨rfl, pha s, exec_pha s, ?_⟩, ⟨rfl, php s, s.sr.flatten, exec_php s, ?_⟩⟩
  · exact ⟨wroteOne_of_mem_eq rfl, rfl, rfl, rfl, rfl, rfl, rfl, rfl⟩
  · exact ⟨wroteOne_of_mem_eq rfl, flatten_toNat _, rfl, rfl, rfl, rfl, rfl, rfl, rfl⟩

/-- PLA in the cells of the stack page (R212). -/
theorem pla_eq_cells (s : State) : pla s = { s with
    sp := s.sp + 1
    cyc := s.cyc + 3
    ac := cell s (stackCell (s.sp + 1))
    sr := withNZ s.sr (cell s (stackCell (s.sp + 1))) } := by
  rw [pla_eq, setNZ_eq_withNZ, ← stackCell_eq]
  rfl

/-- PLP in the cells of the stack page (R213). -/
theorem plp_eq_cells (s : State) : plp s = { s with
    sp := s.sp + 1
    cyc := s.cyc + 3
    sr := Flags.unflatten (cell s (stackCell (s.sp + 1))) } := by
  rw [plp_eq, ← stackCell_eq]
  rfl

/-- Settles O45: PLA and PLP read the cell of SP + 1; Unflatten's bits are those of the statement. -/
theorem pullsReadTheStackPage : Obligations.PullsReadTheStackPage := by
  intro s p
  refine ⟨⟨rfl, ?_⟩, ⟨rfl, ?_⟩⟩
  · rw [exec_pla, pla_eq_cells]
  · rw [exec_plp, plp_eq_cells]
    rfl

/-- Settles O49: the cell the pull reads is the one the push wrote, and Unflatten undoes Flatten. -/
theorem pushThenPullRestores : Obligations.PushThenPullRestores := by
  intro s t u hsp hpage
  refine ⟨fun hpha => ?_, fun hphp => ?_⟩
  · obtain rfl : pha s = t := Host.Outcome.next.inj ((exec_pha s).symm.trans hpha)
    have husp : u.sp + 1 = s.sp := by rw [hsp]; exact BitVec.sub_add_cancel _ 1
    refine ⟨pla u, exec_pla u, ?_, husp⟩
    rw [pla_eq_cells, husp, hpage.stackCell_eq, cell_pha]
  · obtain rfl : php s = t := Host.Outcome.next.inj ((exec_php s).symm.trans hphp)
    have husp : u.sp + 1 = s.sp := by rw [hsp]; exact BitVec.sub_add_cancel _ 1
    refine ⟨plp u, exec_plp u, ?_, husp⟩
    rw [plp_eq_cells, husp, hpage.stackCell_eq, cell_php, unflatten_flatten]

/-- Settles O46: the three pushed cells differ for every SP, and the vector is two cells outside the stack page. -/
theorem brkEntersTheTrap : Obligations.BrkEntersTheTrap := by
  intro s
  obtain ⟨hac, hx, hy⟩ : s.trapEntry.ac = s.ac ∧ s.trapEntry.x = s.x ∧ s.trapEntry.y = s.y := by
    rw [trapEntry_eq]
    exact ⟨rfl, rfl, rfl⟩
  have hpc : s.trapEntry.pc.toNat = word16 s 0xFFFE 0xFFFF := by rw [trapEntry_eq, join_read, word16_toNat]
  rw [sub_two_eq, sub_three_eq]
  refine ⟨rfl, s.trapEntry, exec_brk s, rfl, hac, hx, hy, rfl, rfl, hpc, ?_, ?_, ?_, fun n h0 h1 h2 => ?_⟩
  · rw [cell_trapEntry, if_neg (stackCell_ne_sub_two _), if_neg (stackCell_ne_sub_one _), if_pos rfl, hi_toNat]
  · rw [cell_trapEntry, if_neg (stackCell_ne_sub_one _), if_pos rfl, lo_toNat]
  · rw [cell_trapEntry, if_pos rfl, flatten_toNat]
    rfl
  · rw [cell_trapEntry, if_neg h2, if_neg h1, if_neg h0]

/-- RTI in the cells of the stack page (R215). -/
theorem trapReturn_eq_cells (s : State) : s.trapReturn = { s with
    pc := join (cell s (stackCell (s.sp + 1 + 1 + 1))) (cell s (stackCell (s.sp + 1 + 1)))
    sp := s.sp + 1 + 1 + 1
    sr := Flags.unflatten (cell s (stackCell (s.sp + 1)))
    cyc := s.cyc + 5 } := by
  rw [trapReturn_eq, join_stack, ← stackCell_eq]
  rfl

/-- Settles O47: the three popped bytes, the last two as a number. -/
theorem rtiReturnsFromTheTrap : Obligations.RtiReturnsFromTheTrap := by
  intro s p
  refine ⟨rfl, ?_⟩
  rw [exec_rti, trapReturn_eq_cells, join_eq, add_two_eq, add_three_eq]
  rfl

/-- Settles O48: the three cells RTI reads are those BRK wrote, and Unflatten undoes Flatten. -/
theorem brkThenRtiRestores : Obligations.BrkThenRtiRestores := by
  intro s t u hbrk hsp hpage
  obtain rfl : s.trapEntry = t := Host.Outcome.next.inj ((exec_brk s).symm.trans hbrk)
  have h1 : u.sp + 1 = s.sp - 1 - 1 := by rw [hsp]; exact BitVec.sub_add_cancel _ 1
  have h2 : u.sp + 1 + 1 = s.sp - 1 := by rw [h1]; exact BitVec.sub_add_cancel _ 1
  have h3 : u.sp + 1 + 1 + 1 = s.sp := by rw [h2]; exact BitVec.sub_add_cancel _ 1
  have hsr : cell u (stackCell (u.sp + 1)) = Flags.flatten { s.sr with b := true } := by
    rw [h1, hpage.stackCell_eq, cell_trapEntry, if_pos rfl]
  have hlow : cell u (stackCell (u.sp + 1 + 1)) = lo s.pc := by
    rw [h2, hpage.stackCell_eq, cell_trapEntry, if_neg (stackCell_ne_sub_one _), if_pos rfl]
  have hhigh : cell u (stackCell (u.sp + 1 + 1 + 1)) = hi s.pc := by
    rw [h3, hpage.stackCell_eq, cell_trapEntry, if_neg (stackCell_ne_sub_two _), if_neg (stackCell_ne_sub_one _),
      if_pos rfl]
  refine ⟨u.trapReturn, exec_rti u, ?_, h3, ?_⟩
  · rw [trapReturn_eq_cells, hhigh, hlow, join_hi_lo]
  · rw [trapReturn_eq_cells, hsr, unflatten_flatten]

end Sys2Proof.Spec
end

section
/-! PROOFS. How a step and a run end: ProgrammingFault alone (R80, R85, R220 to R223). -/

namespace Sys2Proof.Spec
open Sys2Proof.Machine

/-- Settles O8: a step is completed by its instruction's meaning, or faults with NoEntry. -/
theorem stepNeverRefusesNorBadVariant : Obligations.StepNeverRefusesNorBadVariant := by
  intro s
  by_cases h : tableEntry s.opcodeAt = none
  · rw [step_of_noEntry h]
    exact ⟨nofun, nofun⟩
  · obtain ⟨t, ht⟩ := step_of_entry h
    rw [ht]
    exact ⟨nofun, nofun⟩

/-- The turn at a fault keeps the state after the opcode fetch and records opcode and address (R222). -/
theorem loopTurn_of_fault {halt : State → Bool} {s : State} {cause : FaultCause} {op : Byte} {a : Word}
    (h : halt s = false) (hstep : step s = .fault (.programmingFault cause op a)) :
    loopTurn halt { st := s, cond := .running } = { st := s.afterOpcodeFetch, cond := .faulted op a } := by
  simp [loopTurn, h, hstep]

/-- Settles O56: the first turn faults, and the turns after it leave the ended session. -/
theorem faultEndsTheRun : Obligations.FaultEndsTheRun := by
  intro halt s fuel hhalt hop op
  have hstep : step s = .fault (.programmingFault .noEntry op s.pc) :=
    step_of_noEntry ((tableEntry_eq_none_iff _).mpr hop)
  have hrun : runLoop halt (fuel + 1) { st := s, cond := .running } =
      { st := { s with pc := s.pc + 1, cyc := s.cyc + 1 }, cond := .faulted op s.pc } := by
    rw [runLoop, loopTurn_of_fault hhalt hstep]
    exact runLoop_of_ended halt fuel nofun
  exact ⟨hrun, by rw [hrun, observe]⟩

end Sys2Proof.Spec
end

section
/-! PROOFS. Construction (R240): what the bulk writes of R42 leave in each cell, then the reset vector over the image
(R47). -/

namespace Sys2Proof.Spec
open Sys2Proof.Machine

theorem construct_of_wf {p : Config.Params} (h : p.wf = true) : construct p = .next (constructed p) := if_pos h

theorem construct_of_not_wf {p : Config.Params} (h : ¬ p.wf = true) : construct p = .refused .programTooLong :=
  if_neg h

theorem params_wf_iff (p : Config.Params) : p.wf = true ↔ p.program.length ≤ 65536 := decide_eq_true_iff

/-- Settles O54: the length is all that well-formed parameters ask for. -/
theorem tooLongImageIsRefused : Obligations.TooLongImageIsRefused := by
  intro p hlen
  exact construct_of_not_wf (mt (params_wf_iff p).mp (Nat.not_le.mpr hlen))

/-- Settles O11: the one listed cell is canonical, and it is the high byte of the default reset vector. -/
theorem resetHasTheInvariant : Obligations.ResetHasTheInvariant :=
  ⟨Memory.reset_wf, construct_of_wf rfl⟩

/-- The address of the byte after the first of a bulk write. -/
theorem bulk_address_succ (a : Word) (k : Nat) :
    ((a + 1).toNat + k) % 65536 = (a.toNat + (k + 1)) % 65536 := by
  have ha : (a + 1).toNat = (a.toNat + 1) % 65536 := BitVec.toNat_add a 1
  omega

/-- A bulk write leaves the cells that none of its bytes goes to (R42). -/
theorem read_bulkWrite_other (m : Memory) (a : Word) (bytes : List Byte) {n : Nat}
    (h : ∀ k < bytes.length, (a.toNat + k) % 65536 ≠ n) :
    Memory.read (Memory.bulkWrite m a bytes) n = Memory.read m n := by
  induction bytes generalizing m a with
  | nil => rfl
  | cons b rest ih =>
    have hhead : n ≠ a.toNat := by
      have h0 := h 0 (Nat.succ_pos _)
      rw [Nat.add_zero, Nat.mod_eq_of_lt a.isLt] at h0
      exact h0.symm
    have htail : ∀ k < rest.length, ((a + 1).toNat + k) % 65536 ≠ n := by
      intro k hk
      rw [bulk_address_succ]
      exact h (k + 1) (Nat.succ_lt_succ hk)
    rw [Memory.bulkWrite, ih _ _ htail, Memory.read_write_other _ _ hhead]

/-- A bulk write no longer than the memory leaves each byte in its own cell (R42). -/
theorem read_bulkWrite_getElem (m : Memory) (a : Word) {bytes : List Byte} (hlen : bytes.length ≤ 65536) {k : Nat}
    {v : Byte} (hk : bytes[k]? = some v) :
    Memory.read (Memory.bulkWrite m a bytes) ((a.toNat + k) % 65536) = v := by
  induction bytes generalizing m a k with
  | nil => cases hk
  | cons b rest ih =>
    rw [List.length_cons] at hlen
    rw [Memory.bulkWrite]
    cases k with
    | zero =>
      obtain rfl : b = v := Option.some.inj hk
      have ha : (a.toNat + 0) % 65536 = a.toNat := Nat.mod_eq_of_lt a.isLt
      rw [ha, read_bulkWrite_other, Memory.read_write_same]
      intro j hj
      rw [bulk_address_succ]
      omega
    | succ j =>
      rw [← bulk_address_succ]
      exact ih _ _ (by omega) hk

theorem constructed_cell (p : Config.Params) (n : Nat) :
    cell (constructed p) n = if n = 0xFFFD then hi p.entry else if n = 0xFFFC then lo p.entry
      else Memory.read (Memory.bulkWrite [] p.loadAddr p.program) n := by
  simp only [cell, constructed, constructedMemory, Memory.bulkWrite, Memory.read_write]
  rfl

/-- The entry is read back from the reset vector (R240). -/
theorem constructed_pc (p : Config.Params) : (constructed p).pc = p.entry := by
  have hhigh : cell (constructed p) 0xFFFD = hi p.entry := by rw [constructed_cell, if_pos rfl]
  have hlow : cell (constructed p) 0xFFFC = lo p.entry := by rw [constructed_cell, if_neg (by decide), if_pos rfl]
  calc (constructed p).pc
    _ = join (cell (constructed p) 0xFFFD) (cell (constructed p) 0xFFFC) := rfl
    _ = p.entry := by rw [hhigh, hlow, join_hi_lo]

/-- Settles O53: the vector's two cells, the image's, and the cells of neither. -/
theorem constructionGivesTheResetValues : Obligations.ConstructionGivesTheResetValues := by
  refine ⟨fun p hlen => ⟨constructed p, construct_of_wf ((params_wf_iff p).mpr hlen), rfl, constructed_pc p, rfl, rfl,
    rfl, rfl, rfl, rfl, ?_, ?_, fun k v hk hlow hhigh => ?_, fun n hlow hhigh hn => ?_⟩, fun image la => ⟨rfl, rfl⟩⟩
  · rw [constructed_cell, if_neg (by decide), if_pos rfl, lo_toNat]
  · rw [constructed_cell, if_pos rfl, hi_toNat]
  · rw [constructed_cell, if_neg hhigh, if_neg hlow, read_bulkWrite_getElem [] p.loadAddr hlen hk]
  · rw [constructed_cell, if_neg hhigh, if_neg hlow, read_bulkWrite_other [] p.loadAddr p.program hn, Memory.read_nil]
    rfl

end Sys2Proof.Spec
end

section
/-! PROOFS. The cycle table of R244: the cell each instruction's total is read from, by mnemonic and operand form, and
the cycles its meaning charges. -/

namespace Sys2Proof.Spec
open Sys2Proof.Machine

/-- The mode of an operand form. -/
def formMode : Operand → Mode
  | .imm _ => .imm
  | .zp _ => .zp
  | .zpx _ => .zpx
  | .zpy _ => .zpy
  | .abs _ => .abs
  | .abx _ => .abx
  | .aby _ => .aby
  | .ind _ => .ind
  | .izx _ => .izx
  | .izy _ => .izy

/-- The column of R63, by mnemonic and operand form. -/
def modeOf (m : Mnemonic) : Option Operand → Mode
  | some o => formMode o
  | none =>
    if m ∈ branches then .rel else if m = .jsr then .abs
    else if m ∈ [Mnemonic.asl, .lsr, .rol, .ror] then .acc else .imp

theorem mode_eq (i : Instr) : i.mode = modeOf i.mnemonic (operandOf i) := by
  cases i <;> rfl

/-- A cell of R244 as a total: one more where it has a plus and the page is crossed. -/
def cellTotal (c : Nat × Bool) (o : Option Operand) (s : State) : Nat :=
  c.1 + match o with
    | some o => if c.2 && crosses o s then 1 else 0
    | none => 0

theorem cycleCells_lookup (i : Instr) : ∃ c, (cycleCells i.mnemonic).lookup i.mode = some c := by
  cases i <;> exact ⟨_, rfl⟩

theorem branchTaken_eq_false {m : Mnemonic} (hm : m ∉ branches) (f : Flags) : branchTaken m f = false := by
  cases m with
  | bcc | bcs | beq | bmi | bne | bpl | bvc | bvs => exact absurd (by decide) hm
  | _ => rfl

/-- But for the branches, an instruction's total is its cell's. -/
theorem cycleTotal_of_not_branch {i : Instr} {c : Nat × Bool} (hm : i.mnemonic ∉ branches)
    (hc : (cycleCells i.mnemonic).lookup i.mode = some c) (s : State) :
    cycleTotal i s = cellTotal c (operandOf i) s := by
  simp only [cycleTotal, hc, branchTaken_eq_false hm]
  rfl

/-- The cell of an operand form in the rows of the instructions that read their operand; none of them has IND. -/
def readCell : Operand → Nat × Bool
  | .imm _ => (2, false)
  | .zp _ => (3, false)
  | .zpx _ | .zpy _ | .abs _ => (4, false)
  | .abx _ | .aby _ => (4, true)
  | .ind _ | .izx _ => (6, false)
  | .izy _ => (5, true)

theorem cellTotal_readCell (o : Operand) (s : State) : cellTotal (readCell o) (some o) s = readTotal o s := by
  cases o with
  | imm | zp | zpx | zpy | abs | ind | izx => rfl
  | abx | aby | izy =>
    simp only [cellTotal, readCell, readTotal, Bool.true_and]
    split <;> rfl

/-! The cells of each family's rows. A form with no cell in the row has no lookup. -/

theorem Reads.cell_eq {m f} (h : Reads m f) {o : Operand} {c : Nat × Bool}
    (hc : (cycleCells m).lookup (formMode o) = some c) : c = readCell o := by
  cases h with
  | lda | ldx | ldy | adc | sbc | cmp | cpx | cpy | and | ora | eor | bit => cases o <;> cases hc <;> rfl

theorem Stores.cell_eq {m f} (h : Stores m f) {o : Operand} {c : Nat × Bool}
    (hc : (cycleCells m).lookup (formMode o) = some c) : c = (storeTotal o, false) := by
  cases h with
  | sta | stx | sty => cases o <;> cases hc <;> rfl

theorem Modifies.cell_eq {m f} (h : Modifies m f) {o : Operand} (ho : Modifiable o) {c : Nat × Bool}
    (hc : (cycleCells m).lookup (formMode o) = some c) : c = (rmwTotal o, false) := by
  cases h with
  | inc | dec => cases ho <;> cases hc <;> rfl
  | shift h =>
    cases h with
    | asl | lsr | rol | ror => cases ho <;> cases hc <;> rfl

theorem Implied.cell_eq {m f} (h : Implied m f) {c : Nat × Bool}
    (hc : (cycleCells m).lookup (modeOf m none) = some c) : c = (2, false) := by
  cases h with
  | shift h => cases h <;> exact (Option.some.inj hc).symm
  | _ => exact (Option.some.inj hc).symm

theorem Reads.cyc_eq {m f} (h : Reads m f) (o : Operand) (s : State) : (f o s).cyc + 1 = s.cyc + readTotal o s := by
  obtain ⟨_, _, _, _, e⟩ := h.frame o s
  have hcyc : (f o s).cyc = s.cyc + resolverCycles false o s + 1 := by rw [e, resolve_state, advance]
  have htotal := resolverCycles_read o s
  omega

/-- But for the branches, a meaning and its opcode fetch cost what the cell of the meaning's mnemonic and operand form
says. -/
theorem Meaning.cyc_eq {m o f} (h : Meaning m o f) (hm : m ∉ branches) {c : Nat × Bool}
    (hc : (cycleCells m).lookup (modeOf m o) = some c) (s : State) : (f s).cyc + 1 = s.cyc + cellTotal c o s := by
  cases h with
  | read h o => rw [h.cell_eq hc, cellTotal_readCell, h.cyc_eq o s]
  | store h o =>
    obtain ⟨v, e⟩ := h.eq_storeOperand o s
    obtain ⟨-, -, -, -, hcyc⟩ := storeOperand_effect o v s
    rw [h.cell_eq hc, e]
    exact hcyc
  | @modify m f h o ho =>
    obtain ⟨-, -, -, -, hcyc⟩ := rmwMem_effect ho (s := s) (f := f) rfl
    rw [h.cell_eq ho hc]
    exact hcyc
  | implied h =>
    obtain ⟨_, _, _, _, _, e⟩ := h.frame s
    rw [h.cell_eq hc, e]
    rfl
  | branch h => exact absurd h hm
  | jmpAbs | jmpInd => rw [jmp_eq, resolve_state, ← Option.some.inj hc]; rfl
  | brk => rw [trapEntry_eq, ← Option.some.inj hc]; rfl
  | jsr | rts | pha | php | pla | plp | rti => rw [← Option.some.inj hc]; rfl

/-- A branch instruction is the branch of R112 on its own flag test and displacement, and its cell says 2. -/
theorem exec_and_cycleTotal_of_branch {i : Instr} (hm : i.mnemonic ∈ branches) (s : State) :
    exec i s = .next (branched (branchTaken i.mnemonic s.sr) (displacement i) s) ∧
    cycleTotal i s = 2 + if branchTaken i.mnemonic s.sr then takenCycles s (displacement i) else 0 := by
  cases i with
  | bcc d | bcs d | beq d | bmi d | bne d | bpl d | bvc d | bvs d =>
    exact ⟨congrArg _ (branch_eq_branched _ d s), rfl⟩
  | _ => exact absurd hm (by simp [branches, Instr.mnemonic])

theorem branched_cyc (taken : Bool) (d : Byte) (s : State) :
    (branched taken d s).cyc + 1 = s.cyc + (2 + if taken then takenCycles s d else 0) := by
  cases taken with
  | false => rfl
  | true => simp only [branched, if_true]; omega

/-- Settles O13: a branch by its own rule, every other instruction by its meaning and its cell of the table. -/
theorem cycleTableHolds : Obligations.CycleTableHolds := by
  intro i s
  by_cases hm : i.mnemonic ∈ branches
  · obtain ⟨hexec, htotal⟩ := exec_and_cycleTotal_of_branch hm s
    exact ⟨_, hexec, by rw [htotal, branched_cyc]⟩
  · obtain ⟨f, hf, h⟩ := exec_meaning i
    obtain ⟨c, hc⟩ := cycleCells_lookup i
    exact ⟨f s, hf s, by rw [cycleTotal_of_not_branch hm hc, h.cyc_eq hm (mode_eq i ▸ hc)]⟩

end Sys2Proof.Spec
end
